-- ==== Sys2Proof/Word.lean ====
section
/-! DEFINITION. The words of the model: a character of the literal, a bit of a sequence, a line level. -/

namespace Sys2Proof

/-- A character of the RAW literal, of CHIP or of the diagnostic line: an 8-bit code (30 R91). -/
abbrev Byte := BitVec 8

/-- "A two-valued signal, 0 or 1" (00 R9): `false` is 0, `true` is 1. -/
abbrev Bit := Bool

/-- A BitSequence: "first element sent first" (00 R9, 20 R73). -/
abbrev BitSeq := List Bit

/-- A logical line level (30 R102): `high` is the code 1, `low` the code 0. -/
inductive Level where
  | low
  | high
  deriving DecidableEq, Repr, Inhabited

/-- The two output lines by role (45 R186): `zero` is Z, `one` is O. -/
inductive Line where
  | zero
  | one
  deriving DecidableEq, Repr, Inhabited

/-- The line controller's answer to a line operation (20 R67). -/
inductive Answer where
  | ok
  | fail
  deriving DecidableEq, Repr, Inhabited

end Sys2Proof
end

