-- ==== Sys2Proof/Config.lean ====
section
/-! DEFINITION. What is fixed for the block: the parameters of 00 R7, the switches of 00 R8 at the values the
spec's rules are written for, and the free values. -/

namespace Sys2Proof.Config

/-- DATA_CAP (00 R7; 92 D1). -/
def dataCap : Nat := 512

/-- FRAME_CAP (00 R7; 92 D1). -/
def frameCap : Nat := 520

/-- SETTLE_US (00 R7). -/
def settleUs : Nat := 2000

/-- PULSE_MIN_US (00 R7). -/
def pulseMinUs : Nat := 20

/-- PULSE_MAX_US (00 R7). -/
def pulseMaxUs : Nat := 5000

/-- PULSE_DEFAULT_US (00 R7). -/
def pulseDefaultUs : Nat := 50

/-- SPACE_DEFAULT_US (00 R7). -/
def spaceDefaultUs : Nat := 1000

/-- FORMAT_DEFAULT (00 R7). -/
def formatDefault : BitVec 8 := 26

/-- PARITY_DEFAULT, Standard (00 R7, 30 R106). -/
def parityDefault : BitVec 2 := 3

/-- FACILITY_DEFAULT (00 R7). -/
def facilityDefault : Nat := 0

/-- CARD_DEFAULT (00 R7). -/
def cardDefault : Nat := 0

/-- PRESET (00 R7, 42 R152): identifier, facility width, card width, in the order of 42 R152. -/
def presets : List (BitVec 8 × Nat × Nat) :=
  [(26, 8, 16), (34, 16, 16), (35, 19, 16), (37, 18, 16), (48, 16, 30)]

/-- CHIP_DEFAULT, the string `gpiochip0` in ASCII (00 R7, 30 R91). -/
def chipDefault : List Byte := [0x67, 0x70, 0x69, 0x6F, 0x63, 0x68, 0x69, 0x70, 0x30]

/-- EXIT_OK (00 R7). -/
def exitOk : Nat := 0

/-- EXIT_FATAL (00 R7). -/
def exitFatal : Nat := 2

/-- The sense of the whole-frame parity bit (93 U10). -/
inductive WholeSense where
  | formula
  | result
  deriving DecidableEq, Repr

/-- WHOLE_SENSE at its default (00 R8, 93 U10; log 13). -/
def wholeSense : WholeSense := .formula

/-- EMPTY_DATA_OK at its default (00 R8, 42 R160; log 13). -/
def emptyDataOk : Bool := true

/-- HEX_LOWER_OK at its default (00 R8, 30 R94; log 13). -/
def hexLowerOk : Bool := true

/-- The zero-line is the line at offset D0, the default of 93 U7 (45 R186; log 13). -/
def zeroLineIsD0 : Bool := true

/-! Free values: constants with no body, so that nothing proved can rest on one of their values. Each is applied to
`State.draws`, a counter that a drawing step advances. -/

/-- The controller's answer where the environment's script holds none: "WFE cannot predict or influence the answer"
(20 R67; log 4). -/
opaque lineAnswer : Nat → Answer

/-- Whether a failed set took effect on the zero-line: its old or its new level (20 R72; log 5). -/
opaque tookEffectZero : Nat → Bool

/-- Whether a failed set took effect on the one-line (20 R72; log 5). -/
opaque tookEffectOne : Nat → Bool

/-- OWNED after a FatalError raised by a failed LSET1, LSETB or LREL: "unspecified" (60 R235, 93 U3; log 6). -/
opaque ownedAfterFail : Nat → Bool

/-- The text of the diagnostic line: "any one line" (60 R231, 93 U2; log 7). -/
opaque diagText : Nat → List Byte

end Sys2Proof.Config
end

