-- ==== Sys2Proof/Syntax.lean ====
section
/-! DEFINITION. The operations of the block, one constructor per row of spec/opcode_table.json in the table's order,
and the encoded selectors that the block decodes into them (30 R90). -/

namespace Sys2Proof

/-- The 63 operations (30 R108). An illegal character or identifier is carried as the operand of its row. -/
inductive Instr where
  /-- 40 R120 -/
  | start
  /-- 41 R130 -/
  | cfgchk
  /-- 42 R140 -/
  | build
  /-- 42 R141 -/
  | buildRaw
  /-- 42 R142; `upper` tells the prefix `0X` (0x3058) from `0x` (0x3078). -/
  | rawPrefixHex (upper : Bool)
  /-- 42 R142; the first two characters, or `none` where RAW_LEN < 2. -/
  | rawPrefixBin (chars : Option (Byte × Byte))
  /-- 42 R143 -/
  | bin0
  /-- 42 R144 -/
  | bin1
  /-- 42 R145 -/
  | binSp
  /-- 42 R146 -/
  | binUs
  /-- 42 R147 -/
  | binIll (ch : Byte)
  /-- HEX.0, 42 R148 -/
  | hex0
  /-- HEX.1, 42 R148 -/
  | hex1
  /-- HEX.2, 42 R148 -/
  | hex2
  /-- HEX.3, 42 R148 -/
  | hex3
  /-- HEX.4, 42 R148 -/
  | hex4
  /-- HEX.5, 42 R148 -/
  | hex5
  /-- HEX.6, 42 R148 -/
  | hex6
  /-- HEX.7, 42 R148 -/
  | hex7
  /-- HEX.8, 42 R148 -/
  | hex8
  /-- HEX.9, 42 R148 -/
  | hex9
  /-- HEX.A, 42 R149 -/
  | hexUA
  /-- HEX.B, 42 R149 -/
  | hexUB
  /-- HEX.C, 42 R149 -/
  | hexUC
  /-- HEX.D, 42 R149 -/
  | hexUD
  /-- HEX.E, 42 R149 -/
  | hexUE
  /-- HEX.F, 42 R149 -/
  | hexUF
  /-- HEX.a, 42 R149 -/
  | hexLA
  /-- HEX.b, 42 R149 -/
  | hexLB
  /-- HEX.c, 42 R149 -/
  | hexLC
  /-- HEX.d, 42 R149 -/
  | hexLD
  /-- HEX.e, 42 R149 -/
  | hexLE
  /-- HEX.f, 42 R149 -/
  | hexLF
  /-- 42 R150 -/
  | hexIll (ch : Byte)
  /-- 42 R151 -/
  | buildField
  /-- 42 R153 -/
  | fieldResolve
  /-- 42 R152 -/
  | fmt26
  /-- 42 R152 -/
  | fmt34
  /-- 42 R152 -/
  | fmt35
  /-- 42 R152 -/
  | fmt37
  /-- 42 R152 -/
  | fmt48
  /-- 42 R154 -/
  | fmtIll (id : BitVec 8)
  /-- 42 R155 -/
  | fieldRange
  /-- 42 R156 -/
  | fieldCompose
  /-- 42 R157 -/
  | fieldPad
  /-- 43 R170 -/
  | par
  /-- 43 R171 -/
  | parNone
  /-- 43 R172 -/
  | parWeven
  /-- 43 R173 -/
  | parWodd
  /-- 43 R174 -/
  | parStd
  /-- 44 R180 -/
  | fval
  /-- 45 R187 -/
  | tx
  /-- 45 R188 -/
  | txReq
  /-- 45 R189 -/
  | txInit
  /-- 45 R190 -/
  | txSettle
  /-- 45 R191 -/
  | pulse0
  /-- 45 R192 -/
  | pulse1
  /-- 45 R195 -/
  | txEnd
  /-- 45 R197 -/
  | txRel
  /-- LREQ(chip, z, o), 20 R68: `z` the offset of the zero-line, `o` that of the one-line. -/
  | lreq (chip : List Byte) (z o : Nat)
  /-- LSET1(line, level), 20 R69 -/
  | lset1 (line : Line) (level : Level)
  /-- LSETB(level_z, level_o), 20 R70 -/
  | lsetb (levelZ levelO : Level)
  /-- LREL, 20 R71 -/
  | lrel
  deriving DecidableEq, Repr

/-- An operand of a line operation (30 R101): a string, an offset or one bit. -/
inductive Operand where
  | str (s : List Byte)
  | offset (n : Nat)
  | bit (b : BitVec 1)
  deriving DecidableEq, Repr

/-- An encoded selector: its format (30 R90) and its bits, bit 0 the least significant. The formats are separate
code spaces, and which one is decoded is fixed by the place in the pipeline (30 R108). -/
inductive Code where
  | cmd1 (w : BitVec 1)
  | stage3 (w : BitVec 3)
  | mode1 (w : BitVec 1)
  /-- `none` is a literal of fewer than two characters (30 R92). -/
  | prefix16 (w : Option (BitVec 16))
  | litchar9 (w : BitVec 9)
  | fstep2 (w : BitVec 2)
  | fmtid8 (w : BitVec 8)
  | parsel2 (w : BitVec 2)
  | txstep3 (w : BitVec 3)
  /-- The four bits of TXSTEP3 and FRAMEBIT1 in one (30 R108). -/
  | pulse4 (w : BitVec 4)
  | lineop2 (op : BitVec 2) (operands : List Operand)
  deriving DecidableEq, Repr

end Sys2Proof
end

