-- ==== Sys2Proof/Machine/State.lean ====
section
/-! DEFINITION. The machine's state as plain data, its reset value, and the reasons a step can stop. -/

namespace Sys2Proof.Machine

/-- The thirteen configuration registers CR0 to CR12 (10 R20). Numeric registers are naturals (92 D2; log 11). -/
structure ConfigRegs where
  /-- CR0, 10 R21 -/
  chip : List Byte
  /-- CR1, 10 R22 -/
  d0 : Option Nat
  /-- CR2, 10 R22 -/
  d1 : Option Nat
  /-- CR3, 10 R23 -/
  format : BitVec 8
  /-- CR4, 10 R24 -/
  facilityBits : Option Nat
  /-- CR5, 10 R24 -/
  cardBits : Option Nat
  /-- CR6, 10 R25 -/
  facility : Nat
  /-- CR7, 10 R25 -/
  card : Nat
  /-- CR8, 10 R26: the RAW literal store, RAW_LEN its length -/
  raw : Option (List Byte)
  /-- CR9, 10 R27 -/
  parity : BitVec 2
  /-- CR10, 10 R28 -/
  frameBits : Option Nat
  /-- CR11, 10 R29 -/
  pulseUs : Nat
  /-- CR12, 10 R30 -/
  spaceUs : Nat
  deriving DecidableEq, Repr

/-- A host write of one configuration register (40 R124). D0 and D1 become present (10 R22). DESIGN CHOICE, the spec is
silent: FACILITY_BITS, CARD_BITS, RAW and FRAME_BITS too are only written present, and nothing but a reset makes one of
them absent again (log 24). -/
inductive RegWrite where
  | chip (v : List Byte)
  | d0 (v : Nat)
  | d1 (v : Nat)
  | format (v : BitVec 8)
  | facilityBits (v : Nat)
  | cardBits (v : Nat)
  | facility (v : Nat)
  | card (v : Nat)
  | raw (v : List Byte)
  | parity (v : BitVec 2)
  | frameBits (v : Nat)
  | pulseUs (v : Nat)
  | spaceUs (v : Nat)
  deriving DecidableEq, Repr

/-- What the host can do (40 R124): write a register, give the start command of 30 R103, assert reset (70 R260). -/
inductive HostCommand where
  | write (w : RegWrite)
  | command (start : BitVec 1)
  | reset
  deriving DecidableEq, Repr

/-- MODE (10 R34). -/
inductive BuildMode where
  | raw
  | field
  deriving DecidableEq, Repr

/-- PHASE (10 R37). -/
inductive Phase where
  | ready
  | encoding
  | transmitting
  | done
  deriving DecidableEq, Repr

/-- TXS (10 R38). -/
inductive TxState where
  | off
  | idle
  | pulsing (i : Nat)
  | settled
  deriving DecidableEq, Repr

/-- The fifteen cause labels (60 R222), in the order of their numbers. E_USAGE is the host wrapper's; WFE never
raises it. -/
inductive Cause where
  | lineMissing
  | lineSame
  | pulseRange
  | spaceLtPulse
  | rawChar
  | capacity
  | format
  | fieldRange
  | padShort
  | padCap
  | frameLen
  | lineRequest
  | lineSet
  | lineRelease
  | usage
  deriving DecidableEq, Repr

/-- The pipeline stages (40 R121); their codes are STAGE3 (30 R108). -/
inductive Stage where
  | cfgchk
  | build
  | par
  | fval
  | tx
  deriving DecidableEq, Repr

/-- The field-mode sub-steps (42 R151); their codes are FSTEP2 (30 R108). -/
inductive FieldStep where
  | resolve
  | range
  | compose
  | pad
  deriving DecidableEq, Repr

/-- The transmitter's step kinds (45 R187); their codes are TXSTEP3 (30 R108). -/
inductive TxStep where
  | req
  | init
  | settle
  | pulse
  | terminal
  | rel
  deriving DecidableEq, Repr

/-- A line operation with its operands, as WFE emits it (20 R66, 30 R101). -/
inductive LineOp where
  | lreq (chip : List Byte) (z o : Nat)
  | lset1 (line : Line) (level : Level)
  | lsetb (levelZ levelO : Level)
  | lrel
  deriving DecidableEq, Repr

/-- The three holds (45 R199): the settle hold, the low time of a pulse on a line, the spacing. -/
inductive HoldKind where
  | settle
  | pulse (line : Line)
  | space
  deriving DecidableEq, Repr

/-- Where the sequencer stands between two operations: the selector it decodes next, the line operation it has emitted,
or the hold it is in (the model's own field; 30 R108; log 2). -/
inductive Seq where
  /-- STAGE3 is decoded (40 R121). -/
  | stage (n : Stage)
  /-- MODE1 is decoded (42 R140). -/
  | mode
  /-- PREFIX16 is decoded (42 R142). -/
  | litPrefix
  /-- The literal's loop: LITCHAR9 at K is decoded while K < RAW_LEN (42 R141). -/
  | literal
  /-- FSTEP2 is decoded (42 R151). -/
  | fstep (n : FieldStep)
  /-- FMTID8 is decoded (42 R153). -/
  | format
  /-- PARSEL2 is decoded (43 R170). -/
  | parity
  /-- TXSTEP3 is decoded, at `pulse` with FRAMEBIT1 while I < FLEN (45 R187). -/
  | txstep (n : TxStep)
  /-- A line operation is emitted and its answer taken (20 R67). -/
  | lineop (op : LineOp)
  /-- A hold runs until TIMER = 0 (45 R199). -/
  | hold (k : HoldKind)
  /-- The last line of RUN: EXIT, DIAG, PHASE (40 R121). -/
  | finish
  deriving DecidableEq, Repr

/-- All the state the spec gives the machine (10 R20 to R46), then the model's own fields. DLEN is the length of `data`
and FLEN that of `frame` (log 18). -/
structure State where
  /-- CR0 to CR12, 10 R20 -/
  cr : ConfigRegs
  /-- DATA[0..DLEN), 10 R32 -/
  data : BitSeq
  /-- FRAME[0..FLEN), 10 R33 -/
  frame : BitSeq
  /-- MODE, 10 R34 -/
  mode : BuildMode
  /-- FB, 10 R34 -/
  fb : Nat
  /-- CB, 10 R34 -/
  cb : Nat
  /-- K, 10 R35 -/
  k : Nat
  /-- HEXMODE, 10 R35 -/
  hexmode : Bool
  /-- I, 10 R36 -/
  i : Nat
  /-- PHASE, 10 R37 -/
  phase : Phase
  /-- TXS, 10 R38 -/
  txs : TxState
  /-- STEP, 10 R38 -/
  stepIx : Nat
  /-- TIMER, 10 R39 -/
  timer : Nat
  /-- OWNED, 10 R40 -/
  owned : Bool
  /-- LVL0, 10 R41 -/
  lvl0 : Level
  /-- LVL1, 10 R41 -/
  lvl1 : Level
  /-- EXIT, 10 R42 -/
  exit : Option Nat
  /-- DIAG, the lines of the diagnostic output, 10 R43 -/
  diag : List (List Byte)
  /-- CAUSE, absent where no FatalError has been raised, 10 R44 (log 10) -/
  cause : Option Cause
  /-- The sequencer's place (the model's own; log 2). -/
  seq : Seq
  /-- The host's pending commands, oldest first (the model's own; log 3). -/
  host : List HostCommand
  /-- Answers of the line controller already settled, oldest first (the model's own; log 4). -/
  answers : List Answer
  /-- How many times a free value was drawn (the model's own; log 4). -/
  draws : Nat
  deriving DecidableEq, Repr

/-- Why the machine stops with a fault. Both are safe: no run from READY reaches a state that raises one (log 15). -/
inductive Fault where
  /-- Raised by LSET1 and LSETB with OWNED = 0: "Defined only while OWNED = 1" (20 R69, R70). Safe. -/
  | lineNotOwned
  /-- Raised by TX.REQ with CR.D0 or CR.D1 absent: there is no line to request (20 R65; 41 R131 refuses such a run
  before TX). Safe. -/
  | lineUnnamed
  deriving DecidableEq, Repr

/-- Why a step has no meaning. -/
inductive Refusal where
  /-- Raised by exec's arm of an instruction that has no meaning yet. Safe. -/
  | notModelled (mnemonic : String)
  /-- Raised by START outside READY: it "has no meaning and a model has no step for it" (30 R103). Safe. -/
  | startOutsideReady
  /-- Raised by a host write outside READY: "a model refuses it (it has no step for it)" (10 R31). Safe. -/
  | hostWriteOutsideReady
  /-- Raised at the end of BUILD with no data, only where the switch EMPTY_DATA_OK is false (42 R160; it is true, so
  never raised; log 13). Safe. -/
  | emptyData
  /-- Raised by a step on a code that is no row of the table: the sequencer never produces one (93 U16). Safe. -/
  | unusedCode
  deriving DecidableEq, Repr

/-- What an operation answers. -/
abbrev Result := Host.Outcome State Fault Refusal

/-- The configuration registers at reset (10 R47). -/
def ConfigRegs.reset : ConfigRegs where
  chip := Config.chipDefault
  d0 := none
  d1 := none
  format := Config.formatDefault
  facilityBits := none
  cardBits := none
  facility := Config.facilityDefault
  card := Config.cardDefault
  raw := none
  parity := Config.parityDefault
  frameBits := none
  pulseUs := Config.pulseDefaultUs
  spaceUs := Config.spaceDefaultUs

/-- The machine right after reset (10 R47, 70 R260). DESIGN CHOICE, the spec gives no value: MODE, FB, CB, HEXMODE
(log 9), LVL0, LVL1 (log 8), and the model's own fields (log 2, log 3, log 4). -/
def State.reset : State where
  cr := ConfigRegs.reset
  data := []
  frame := []
  mode := .field
  fb := 0
  cb := 0
  k := 0
  hexmode := false
  i := 0
  phase := .ready
  txs := .off
  stepIx := 0
  timer := 0
  owned := false
  lvl0 := .high
  lvl1 := .high
  exit := none
  diag := []
  cause := none
  seq := .stage .cfgchk
  host := []
  answers := []
  draws := 0

end Sys2Proof.Machine
end

