-- ==== Sys2Proof/Machine/Flags.lean ====
section
/-! DEFINITION. WFE has no flags (10 R45): the evenness tests of the parity encoder and the bits made from them are
combinational values, used once and not kept. -/

namespace Sys2Proof.Machine

/-- `ones(S)`: "the number of elements of S equal to 1" (00 R11). -/
def ones (s : BitSeq) : Nat := s.countP id

/-- `even(c)`: "true when c mod 2 = 0" (00 R11). -/
def isEven (c : Nat) : Bool := c % 2 == 0

/-- The bit PAR.WEVEN appends to data with `c` ones: "1 if c is even else 0" (43 R172); the other bit under the sense
`result` (93 U10). -/
def wholeEvenBit (sense : Config.WholeSense) (c : Nat) : Bit :=
  match sense with
  | .formula => isEven c
  | .result => !isEven c

/-- The bit PAR.WODD appends: "0 if c is even else 1" (43 R173); the other bit under the sense `result` (93 U10). -/
def wholeOddBit (sense : Config.WholeSense) (c : Nat) : Bit :=
  match sense with
  | .formula => !isEven c
  | .result => isEven c

/-- The leading bit of PAR.STD over the left block: "1 if even(ones(Lb)) else 0" (43 R174). -/
def stdLeading (left : BitSeq) : Bit := isEven (ones left)

/-- The trailing bit of PAR.STD over the right block: "0 if even(ones(Rb)) else 1" (43 R174). -/
def stdTrailing (right : BitSeq) : Bit := !isEven (ones right)

end Sys2Proof.Machine
end

