-- ==== Sys2Proof/WellFormed.lean ====
section
/-! DEFINITION. Which operations are well formed: an operand that selects another row of the table is not an operand
of a default row. -/

namespace Sys2Proof

/-- The four characters that have a meaning in a binary literal (30 R93). -/
def binChars : List Byte := [0x30, 0x31, 0x20, 0x5F]

/-- The 16 digit characters that no switch touches (30 R94). -/
def hexUpperChars : List Byte :=
  [0x30, 0x31, 0x32, 0x33, 0x34, 0x35, 0x36, 0x37, 0x38, 0x39, 0x41, 0x42, 0x43, 0x44, 0x45, 0x46]

/-- The six lower-case digit characters (30 R94). -/
def hexLowerChars : List Byte := [0x61, 0x62, 0x63, 0x64, 0x65, 0x66]

/-- The digit characters of a hex literal under the switch HEX_LOWER_OK (30 R94). -/
def hexChars (lowerOk : Bool) : List Byte :=
  if lowerOk then hexUpperChars ++ hexLowerChars else hexUpperChars

/-- The supported format identifiers (30 R104). -/
def formatIds : List (BitVec 8) := [26, 34, 35, 37, 48]

/-- The two characters are the hex prefix `0x` or `0X` (30 R92). -/
def isHexPrefix (c0 c1 : Byte) : Bool := c0 == 0x30 && (c1 == 0x78 || c1 == 0x58)

/-- A default row carries no value that another row of its format takes (30 R108); a lower-case digit row exists only
where HEX_LOWER_OK (30 R94); the two lines of a request differ (20 R65). -/
def Instr.wf : Instr → Bool
  | .rawPrefixBin (some (c0, c1)) => !isHexPrefix c0 c1
  | .binIll ch => !binChars.contains ch
  | .hexLA | .hexLB | .hexLC | .hexLD | .hexLE | .hexLF => Config.hexLowerOk
  | .hexIll ch => !(hexChars Config.hexLowerOk).contains ch
  | .fmtIll id => !formatIds.contains id
  | .lreq _ z o => z != o
  | .start | .cfgchk | .build | .buildRaw | .rawPrefixHex _ | .rawPrefixBin none => true
  | .bin0 | .bin1 | .binSp | .binUs => true
  | .hex0 | .hex1 | .hex2 | .hex3 | .hex4 | .hex5 | .hex6 | .hex7 | .hex8 | .hex9 => true
  | .hexUA | .hexUB | .hexUC | .hexUD | .hexUE | .hexUF => true
  | .buildField | .fieldResolve | .fmt26 | .fmt34 | .fmt35 | .fmt37 | .fmt48 => true
  | .fieldRange | .fieldCompose | .fieldPad => true
  | .par | .parNone | .parWeven | .parWodd | .parStd | .fval => true
  | .tx | .txReq | .txInit | .txSettle | .pulse0 | .pulse1 | .txEnd | .txRel => true
  | .lset1 _ _ | .lsetb _ _ | .lrel => true

end Sys2Proof
end

