-- ==== Sys2Proof/Machine/Operands.lean ====
section
/-! DEFINITION. What an operation reads: bits of numbers, the literal's characters, the presets, the lines by role. -/

namespace Sys2Proof.Machine

/-- `bit(v, k)` = floor(v / 2^k) mod 2 (00 R10). -/
def bitAt (v k : Nat) : Bit := v / 2 ^ k % 2 == 1

/-- `msb_first(v, w)`: element j is bit(v, w-1-j) (00 R10). -/
def msbFirst (v w : Nat) : BitSeq := (List.range w).map fun j => bitAt v (w - 1 - j)

/-- `zeros(k)` (00 R9). -/
def zeros (n : Nat) : BitSeq := List.replicate n false

/-- The characters of the RAW literal store (20 R61); none where CR.RAW is absent. -/
def State.rawChars (s : State) : List Byte := s.cr.raw.getD []

/-- DLEN (10 R32). -/
def State.dlen (s : State) : Nat := s.data.length

/-- FLEN (10 R33). -/
def State.flen (s : State) : Nat := s.frame.length

/-- preset(FORMAT), the facility width and the card width (42 R152); none where unsupported (42 R154). -/
def preset (id : BitVec 8) : Option (Nat × Nat) := Config.presets.lookup id

/-- Both width overrides are present, so that no preset is needed (42 R153). -/
def State.widthsExplicit (s : State) : Bool := s.cr.facilityBits.isSome && s.cr.cardBits.isSome

/-- The offset of a line by its role: the zero-line is D0, the one-line D1 (45 R186; the switch of 93 U7, log 13). -/
def State.lineOffset (s : State) (a : Line) : Option Nat :=
  match a with
  | .zero => if Config.zeroLineIsD0 then s.cr.d0 else s.cr.d1
  | .one => if Config.zeroLineIsD0 then s.cr.d1 else s.cr.d0

/-- The line that a frame bit selects: "the zero-line if the bit value is 0, the one-line if the bit value is 1"
(30 R100). -/
def lineOf (b : Bit) : Line := if b then .one else .zero

/-- The level WFE last drove onto a line (10 R41). -/
def State.level (s : State) (a : Line) : Level :=
  match a with
  | .zero => s.lvl0
  | .one => s.lvl1

/-- The duration of a hold in microseconds (45 R199, R187). -/
def State.holdUs (s : State) (k : HoldKind) : Nat :=
  match k with
  | .settle => Config.settleUs
  | .pulse _ => s.cr.pulseUs
  | .space => s.cr.spaceUs

/-- The register file after a host write (40 R124); an optional register becomes present (10 R22; log 24). -/
def RegWrite.apply (w : RegWrite) (r : ConfigRegs) : ConfigRegs :=
  match w with
  | .chip v => { r with chip := v }
  | .d0 v => { r with d0 := some v }
  | .d1 v => { r with d1 := some v }
  | .format v => { r with format := v }
  | .facilityBits v => { r with facilityBits := some v }
  | .cardBits v => { r with cardBits := some v }
  | .facility v => { r with facility := v }
  | .card v => { r with card := v }
  | .raw v => { r with raw := some v }
  | .parity v => { r with parity := v }
  | .frameBits v => { r with frameBits := some v }
  | .pulseUs v => { r with pulseUs := v }
  | .spaceUs v => { r with spaceUs := v }

end Sys2Proof.Machine
end

