-- ==== Sys2Proof/Machine/Ops.lean ====
section
/-! DEFINITION. The named operations over the state: moving the sequencer, the literal cursor, the two bit buffers, the
line operations, holds, and taking the one exception, FatalError. -/

namespace Sys2Proof.Machine

/-! ### The sequencer -/

/-- Hand over to the place `q` of the pipeline. -/
def State.goto (s : State) (q : Seq) : State := { s with seq := q }

/-- `K <- K + 1` (42 R141). -/
def State.nextChar (s : State) : State := { s with k := s.k + 1, seq := .literal }

/-- Entry STEP of txops is performed: STEP becomes the index of the next entry (45 R187). -/
def State.entryDone (s : State) : State := { s with stepIx := s.stepIx + 1 }

/-! ### FatalError -/

/-- One line of text: the free text without line feeds (60 R231; log 7). -/
def diagLine (n : Nat) : List Byte := (Config.diagText n).filter (· != 0x0A)

/-- `raise Fatal(cause)`, the entry of the one exception: CAUSE, DIAG, EXIT and PHASE are written, everything else stays
(60 R230). There is no return from it (60 R236). -/
def State.raiseFatal (s : State) (c : Cause) : State :=
  { s with
    cause := some c
    diag := [diagLine s.draws]
    exit := some Config.exitFatal
    phase := .done
    draws := s.draws + 1 }

/-! ### The bit buffers -/

/-- The two buffers are within their capacities: the canonical form of the stores (20 R63). -/
abbrev State.buffersWf (s : State) : Prop :=
  s.data.length ≤ Config.dataCap ∧ s.frame.length ≤ Config.frameCap

/-- The bits of one literal character enter DATA, or none of them does and the run ends (42 R158, 20 R63). -/
def State.appendChar (s : State) (bits : BitSeq) : Result :=
  if s.data.length + bits.length > Config.dataCap then .next (s.raiseFatal .capacity)
  else .next { s with data := s.data ++ bits }.nextChar

/-- A separator: "DATA and DLEN unchanged; the scan goes on" (42 R145). -/
def State.skipChar (s : State) : Result := .next s.nextChar

/-- A hex digit of value `v` appends exactly its 4 bits, most significant first (42 R148). -/
def State.appendDigit (s : State) (v : Nat) : Result := s.appendChar (msbFirst v 4)

/-- DATA is composed from the two fields, or the run ends where they do not fit (42 R156). -/
def State.composeData (s : State) : Result :=
  if s.fb + s.cb > Config.dataCap then .next (s.raiseFatal .capacity)
  else .next ({ s with data := msbFirst s.cr.facility s.fb ++ msbFirst s.cr.card s.cb }.goto (.fstep .pad))

/-- The parity encoder writes FRAME, or no frame where it does not fit (43 R175), and hands over to the gate. -/
def State.writeFrame (s : State) (f : BitSeq) : Result :=
  if f.length > Config.frameCap then .next (s.raiseFatal .capacity)
  else .next ({ s with frame := f }.goto (.stage .fval))

/-- The end of BUILD: the parity encoder is next (40 R121); without data only where the switch EMPTY_DATA_OK allows it
(42 R160). -/
def State.endBuild (s : State) (emptyOk : Bool) : Result :=
  if s.data.isEmpty && !emptyOk then .refused .emptyData
  else .next (s.goto (.stage .par))

/-! ### Field mode -/

/-- A preset gives the width of each field that has no override; the other keeps its own (42 R152, R153). -/
def State.takePreset (s : State) (id : BitVec 8) : Result :=
  match preset id with
  | some (pf, pc) =>
    .next ({ s with fb := s.cr.facilityBits.getD pf, cb := s.cr.cardBits.getD pc }.goto (.fstep .range))
  | none =>
    if s.widthsExplicit then .next (s.goto (.fstep .range)) else .next (s.raiseFatal .format)

/-! ### The lines -/

/-- The controller's answer to the line operation in hand: the next of the environment's script, free where the script is
at its end (20 R67; log 4). -/
def State.answer (s : State) : Answer :=
  match s.answers with
  | a :: _ => a
  | [] => Config.lineAnswer s.draws

/-- The answer is taken. -/
def State.answered (s : State) : State := { s with answers := s.answers.tail, draws := s.draws + 1 }

/-- One line is driven, the other "is not touched and keeps its level" (20 R69). -/
def State.drive (s : State) (a : Line) (v : Level) : State :=
  match a with
  | .zero => { s with lvl0 := v }
  | .one => { s with lvl1 := v }

/-- Both lines take their new levels at once (20 R70). -/
def State.driveBoth (s : State) (vz vo : Level) : State := { s with lvl0 := vz, lvl1 := vo }

/-- A level that a failed set was to write: "at its old or its new level, not known which" (20 R72; log 5). -/
def uncertain (took : Bool) (old new : Level) : Level := if took then new else old

/-- A failed LSET1: the target at its old or new level, the other line unchanged (20 R72; log 5). -/
def State.driveFailed (s : State) (a : Line) (v : Level) : State :=
  match a with
  | .zero => { s with lvl0 := uncertain (Config.tookEffectZero s.draws) s.lvl0 v }
  | .one => { s with lvl1 := uncertain (Config.tookEffectOne s.draws) s.lvl1 v }

/-- A failed LSETB: "each of the two lines is, independently, at its old or its new level" (20 R72; log 5). -/
def State.driveBothFailed (s : State) (vz vo : Level) : State :=
  { s with
    lvl0 := uncertain (Config.tookEffectZero s.draws) s.lvl0 vz
    lvl1 := uncertain (Config.tookEffectOne s.draws) s.lvl1 vo }

/-- Ownership after a failed LSET1, LSETB or LREL: unspecified (60 R235, 93 U3; log 6). -/
def State.ownershipUnknown (s : State) : State := { s with owned := Config.ownedAfterFail s.draws }

/-- LREQ answered ok: both lines owned and high (20 R68). -/
def State.grant (s : State) : State := { s with owned := true, lvl0 := .high, lvl1 := .high }

/-- `TIMER <- t`: a hold of one of the three durations begins (45 R199). -/
def State.startHold (s : State) (k : HoldKind) : State := { s with timer := s.holdUs k, seq := .hold k }

/-- LREQ, 20 R68, with the transmitter's failure rule 45 R188: on fail "WFE owns nothing", no level is changed. -/
def State.lineRequest (s : State) : Result :=
  match s.answer with
  | .ok => .next (s.grant.answered.entryDone.goto (.txstep .init))
  | .fail => .next ({ s with owned := false }.answered.raiseFatal .lineRequest)

/-- The hold that follows a set of one line: the low half of a pulse is held for PULSE_US, the high half for SPACE_US
(45 R193). -/
def holdAfter (a : Line) (v : Level) : HoldKind :=
  match v with
  | .low => .pulse a
  | .high => .space

/-- LSET1, 20 R69, R72, in its place in the pulse, which a hold follows (45 R193). -/
def State.lineSet (s : State) (a : Line) (v : Level) : Result :=
  if s.owned then
    match s.answer with
    | .ok => .next ((s.drive a v).answered.entryDone.startHold (holdAfter a v))
    | .fail => .next ((s.driveFailed a v).ownershipUnknown.answered.raiseFatal .lineSet)
  else .fault .lineNotOwned

/-- LSETB, 20 R70, R72, in its place in txops: entry 1 is the initial transition and the settle hold follows it
(45 R187, R189), any other is the terminal transition and the release follows it (45 R195). -/
def State.lineSetBoth (s : State) (vz vo : Level) : Result :=
  if s.owned then
    match s.answer with
    | .ok =>
      .next ((s.driveBoth vz vo).answered.entryDone.goto (.txstep (if s.stepIx = 1 then .settle else .rel)))
    | .fail => .next ((s.driveBothFailed vz vo).ownershipUnknown.answered.raiseFatal .lineSet)
  else .fault .lineNotOwned

/-- LREL, 20 R71, R72: ownership is given up and TXS becomes Settled (45 R196, R197). -/
def State.lineRelease (s : State) : Result :=
  match s.answer with
  | .ok => .next ({ s with owned := false, txs := .settled }.answered.entryDone.goto .finish)
  | .fail => .next (s.ownershipUnknown.answered.raiseFatal .lineRelease)

/-! ### Holds -/

/-- A hold has ended: its entry of txops is done, and the sequencer goes on to pulsing with I = 0 after the settle hold
(45 R190), to the rising half after the low time, and to the next frame bit after the spacing (45 R187, R193). -/
def State.holdDone (s : State) (k : HoldKind) : State :=
  match k with
  | .settle => { s with i := 0 }.entryDone.goto (.txstep .pulse)
  | .pulse a => s.entryDone.goto (.lineop (.lset1 a .high))
  | .space => { s with i := s.i + 1 }.entryDone.goto (.txstep .pulse)

/-- One microsecond of a hold: "no state of WFE other than TIMER changes" until TIMER = 0 (45 R199; log 14). -/
def State.holdTick (s : State) (k : HoldKind) : State :=
  if s.timer = 0 then s.holdDone k else { s with timer := s.timer - 1 }

end Sys2Proof.Machine
end

