-- ==== Sys2Proof/Machine/Control.lean ====
section
/-! DEFINITION. Run control and the configuration validator: START and CFGCHK (40, 41). -/

namespace Sys2Proof.Machine

/-- START, 40 R120: READY becomes ENCODING, with CFGCHK first (40 R121). In any other phase it "has no meaning and a
model has no step for it" (30 R103). -/
def execStart (s : State) : Result :=
  match s.phase with
  | .ready => .next ({ s with phase := .encoding }.goto (.stage .cfgchk))
  | .encoding | .transmitting | .done => .refused .startOutsideReady

/-- The four tests of CFGCHK in their order, and the first that fails (41 R130 to R134). -/
def ConfigRegs.check (r : ConfigRegs) : Option Cause :=
  match r.d0, r.d1 with
  | some z, some o =>
    if z = o then some .lineSame
    else if r.pulseUs < Config.pulseMinUs ∨ Config.pulseMaxUs < r.pulseUs then some .pulseRange
    else if r.spaceUs < r.pulseUs then some .spaceLtPulse
    else none
  | _, _ => some .lineMissing

/-- CFGCHK, 41 R130: "writes nothing"; a violation ends the run before any line operation. -/
def execCfgchk (s : State) : Result :=
  match s.cr.check with
  | some c => .next (s.raiseFatal c)
  | none => .next (s.goto (.stage .build))

end Sys2Proof.Machine
end

