-- ==== Sys2Proof/Machine/Field.lean ====
section
/-! DEFINITION. The field-mode composer (42 R151 to R157). -/

namespace Sys2Proof.Machine

/-- BUILD.FIELD, 42 R151: the sub-steps in order, RESOLVE first (log 1). -/
def execBuildField (s : State) : Result := .next (s.goto (.fstep .resolve))

/-- FIELD.RESOLVE, 42 R153: with both overrides present FORMAT is not read; else FMTID8 is decoded. -/
def execFieldResolve (s : State) : Result :=
  match s.cr.facilityBits, s.cr.cardBits with
  | some a, some b => .next ({ s with fb := a, cb := b }.goto (.fstep .range))
  | _, _ => .next (s.goto .format)

/-- FMT.26, 42 R152. -/
def execFmt26 (s : State) : Result := s.takePreset 26

/-- FMT.34, 42 R152. -/
def execFmt34 (s : State) : Result := s.takePreset 34

/-- FMT.35, 42 R152. -/
def execFmt35 (s : State) : Result := s.takePreset 35

/-- FMT.37, 42 R152. -/
def execFmt37 (s : State) : Result := s.takePreset 37

/-- FMT.48, 42 R152. -/
def execFmt48 (s : State) : Result := s.takePreset 48

/-- FMT.ILL, 42 R154: fatal where a preset width is needed, "otherwise nothing". -/
def execFmtIll (_id : BitVec 8) (s : State) : Result :=
  if s.widthsExplicit then .next (s.goto (.fstep .range)) else .next (s.raiseFatal .format)

/-- FIELD.RANGE, 42 R155: the facility first, then the card, each strictly below 2 to its width. -/
def execFieldRange (s : State) : Result :=
  if ¬ s.cr.facility < 2 ^ s.fb then .next (s.raiseFatal .fieldRange)
  else if ¬ s.cr.card < 2 ^ s.cb then .next (s.raiseFatal .fieldRange)
  else .next (s.goto (.fstep .compose))

/-- FIELD.COMPOSE, 42 R156. -/
def execFieldCompose (s : State) : Result := s.composeData

/-- FIELD.PAD, 42 R157: only under PARITY = None with FRAME_BITS present; the zero bits go to the left. -/
def execFieldPad (s : State) : Result :=
  match s.cr.frameBits with
  | none => s.endBuild Config.emptyDataOk
  | some e =>
    if s.cr.parity ≠ 0 then s.endBuild Config.emptyDataOk
    else if e < s.dlen then .next (s.raiseFatal .padShort)
    else if Config.dataCap < e then .next (s.raiseFatal .padCap)
    else { s with data := zeros (e - s.dlen) ++ s.data }.endBuild Config.emptyDataOk

end Sys2Proof.Machine
end

