-- ==== Sys2Proof/Machine/Literal.lean ====
section
/-! DEFINITION. The raw-mode parser (42 R140 to R150): mode, prefix and the characters of the literal. -/

namespace Sys2Proof.Machine

/-- BUILD, 42 R140: DLEN <- 0, MODE from the presence of CR.RAW, and MODE1 is decoded next. -/
def execBuild (s : State) : Result :=
  .next ({ s with data := [], mode := if s.cr.raw.isSome then .raw else .field }.goto .mode)

/-- BUILD.RAW, 42 R141: the prefix first; the loop over the characters is the sequencer's (log 1). -/
def execBuildRaw (s : State) : Result := .next (s.goto .litPrefix)

/-- RAW.PREFIX.HEX, 42 R142: HEXMODE <- 1; K <- 2. The two spellings of the prefix act alike. -/
def execRawPrefixHex (_upper : Bool) (s : State) : Result :=
  .next ({ s with hexmode := true, k := 2 }.goto .literal)

/-- RAW.PREFIX.BIN, 42 R142: HEXMODE <- 0; K <- 0, whatever the characters are. -/
def execRawPrefixBin (_chars : Option (Byte × Byte)) (s : State) : Result :=
  .next ({ s with hexmode := false, k := 0 }.goto .literal)

/-- BIN.0, 42 R143. -/
def execBin0 (s : State) : Result := s.appendChar [false]

/-- BIN.1, 42 R144. -/
def execBin1 (s : State) : Result := s.appendChar [true]

/-- BIN.SP, 42 R145. -/
def execBinSp (s : State) : Result := s.skipChar

/-- BIN.US, 42 R146: "Same as rule R145 in every respect". -/
def execBinUs (s : State) : Result := s.skipChar

/-- BIN.ILL, 42 R147: "any other character is a fatal parse error". -/
def execBinIll (_ch : Byte) (s : State) : Result := .next (s.raiseFatal .rawChar)

/-- HEX.0, 42 R148. -/
def execHex0 (s : State) : Result := s.appendDigit 0

/-- HEX.1, 42 R148. -/
def execHex1 (s : State) : Result := s.appendDigit 1

/-- HEX.2, 42 R148. -/
def execHex2 (s : State) : Result := s.appendDigit 2

/-- HEX.3, 42 R148. -/
def execHex3 (s : State) : Result := s.appendDigit 3

/-- HEX.4, 42 R148. -/
def execHex4 (s : State) : Result := s.appendDigit 4

/-- HEX.5, 42 R148. -/
def execHex5 (s : State) : Result := s.appendDigit 5

/-- HEX.6, 42 R148. -/
def execHex6 (s : State) : Result := s.appendDigit 6

/-- HEX.7, 42 R148. -/
def execHex7 (s : State) : Result := s.appendDigit 7

/-- HEX.8, 42 R148. -/
def execHex8 (s : State) : Result := s.appendDigit 8

/-- HEX.9, 42 R148. -/
def execHex9 (s : State) : Result := s.appendDigit 9

/-- HEX.A, 42 R149. -/
def execHexUA (s : State) : Result := s.appendDigit 10

/-- HEX.B, 42 R149. -/
def execHexUB (s : State) : Result := s.appendDigit 11

/-- HEX.C, 42 R149. -/
def execHexUC (s : State) : Result := s.appendDigit 12

/-- HEX.D, 42 R149. -/
def execHexUD (s : State) : Result := s.appendDigit 13

/-- HEX.E, 42 R149. -/
def execHexUE (s : State) : Result := s.appendDigit 14

/-- HEX.F, 42 R149. -/
def execHexUF (s : State) : Result := s.appendDigit 15

/-- HEX.a, 42 R149. -/
def execHexLA (s : State) : Result := s.appendDigit 10

/-- HEX.b, 42 R149. -/
def execHexLB (s : State) : Result := s.appendDigit 11

/-- HEX.c, 42 R149. -/
def execHexLC (s : State) : Result := s.appendDigit 12

/-- HEX.d, 42 R149. -/
def execHexLD (s : State) : Result := s.appendDigit 13

/-- HEX.e, 42 R149. -/
def execHexLE (s : State) : Result := s.appendDigit 14

/-- HEX.f, 42 R149. -/
def execHexLF (s : State) : Result := s.appendDigit 15

/-- HEX.ILL, 42 R150. -/
def execHexIll (_ch : Byte) (s : State) : Result := .next (s.raiseFatal .rawChar)

end Sys2Proof.Machine
end

