-- ==== Sys2Proof/Machine/Parity.lean ====
section
/-! DEFINITION. The parity encoder and the frame-length gate (43, 44). -/

namespace Sys2Proof.Machine

/-- PAR, 43 R170: FLEN <- 0, and PARSEL2 is decoded next. -/
def execPar (s : State) : Result := .next ({ s with frame := [] }.goto .parity)

/-- PAR.NONE, 43 R171: "identity — output equals input". -/
def execParNone (s : State) : Result := s.writeFrame s.data

/-- PAR.WEVEN, 43 R172: one bit after all data bits. -/
def execParWeven (s : State) : Result :=
  s.writeFrame (s.data ++ [wholeEvenBit Config.wholeSense (ones s.data)])

/-- PAR.WODD, 43 R173: one bit after all data bits. -/
def execParWodd (s : State) : Result :=
  s.writeFrame (s.data ++ [wholeOddBit Config.wholeSense (ones s.data)])

/-- The frame of Standard parity over data: the left block has floor(n/2) bits (43 R174). -/
def stdFrame (d : BitSeq) : BitSeq :=
  [stdLeading (d.take (d.length / 2))] ++ d ++ [stdTrailing (d.drop (d.length / 2))]

/-- PAR.STD, 43 R174: one bit before the data and one after. -/
def execParStd (s : State) : Result := s.writeFrame (stdFrame s.data)

/-- FVAL, 44 R180: a present expectation equals FLEN or the run ends; "writes nothing" otherwise. -/
def execFval (s : State) : Result :=
  match s.cr.frameBits with
  | none => .next (s.goto (.stage .tx))
  | some e => if e ≠ s.flen then .next (s.raiseFatal .frameLen) else .next (s.goto (.stage .tx))

end Sys2Proof.Machine
end

