-- ==== Sys2Proof/Machine/Transmitter.lean ====
section
/-! DEFINITION. The pulse transmitter (45) and the line operations it emits (20 R66 to R72). -/

namespace Sys2Proof.Machine

/-- TX, 45 R187, with the line `PHASE <- TRANSMITTING` of RUN that stands before it (40 R121; log 19): STEP <- 0, TX.REQ
is next. -/
def execTx (s : State) : Result :=
  .next ({ s with phase := .transmitting, stepIx := 0 }.goto (.txstep .req))

/-- TX.REQ, 45 R188: TXS <- Idle and LREQ(CHIP, D0, D1) is emitted. With an absent offset there is no line to name
(log 15). -/
def execTxReq (s : State) : Result :=
  match s.lineOffset .zero, s.lineOffset .one with
  | some z, some o => .next ({ s with txs := .idle }.goto (.lineop (.lreq s.cr.chip z o)))
  | _, _ => .fault .lineUnnamed

/-- TX.INIT, 45 R189: LSETB(1, 1) is emitted. -/
def execTxInit (s : State) : Result := .next (s.goto (.lineop (.lsetb .high .high)))

/-- TX.SETTLE, 45 R190: Hold(SETTLE_US). -/
def execTxSettle (s : State) : Result := .next (s.startHold .settle)

/-- PULSE0, 45 R191: TXS <- Pulsing(I), the pulse of 45 R193 on the zero-line begins. -/
def execPulse0 (s : State) : Result :=
  .next ({ s with txs := .pulsing s.i }.goto (.lineop (.lset1 .zero .low)))

/-- PULSE1, 45 R192: TXS <- Pulsing(I), the pulse of 45 R193 on the one-line begins. -/
def execPulse1 (s : State) : Result :=
  .next ({ s with txs := .pulsing s.i }.goto (.lineop (.lset1 .one .low)))

/-- TX.END, 45 R195: LSETB(1, 1) is emitted. -/
def execTxEnd (s : State) : Result := .next (s.goto (.lineop (.lsetb .high .high)))

/-- TX.REL, 45 R197: LREL is emitted. -/
def execTxRel (s : State) : Result := .next (s.goto (.lineop .lrel))

/-- LREQ, 20 R68: the chip and the offsets are the controller's to interpret (60 R245, 93 U12). -/
def execLreq (_chip : List Byte) (_z _o : Nat) (s : State) : Result := s.lineRequest

/-- LSET1, 20 R69. -/
def execLset1 (line : Line) (level : Level) (s : State) : Result := s.lineSet line level

/-- LSETB, 20 R70. -/
def execLsetb (levelZ levelO : Level) (s : State) : Result := s.lineSetBoth levelZ levelO

/-- LREL, 20 R71. -/
def execLrel (s : State) : Result := s.lineRelease

end Sys2Proof.Machine
end

