-- ==== Sys2Proof/Machine/Dispatch.lean ====
section
/-! DEFINITION. The meaning of every operation, one arm per row of spec/opcode_table.json. -/

namespace Sys2Proof.Machine

/-- The meaning of an operation. -/
def exec (i : Instr) (s : State) : Host.Outcome State Fault Refusal :=
  match i with
  | .start => Sys2Proof.Machine.execStart s
  | .cfgchk => Sys2Proof.Machine.execCfgchk s
  | .build => Sys2Proof.Machine.execBuild s
  | .buildRaw => Sys2Proof.Machine.execBuildRaw s
  | .rawPrefixHex upper => Sys2Proof.Machine.execRawPrefixHex upper s
  | .rawPrefixBin chars => Sys2Proof.Machine.execRawPrefixBin chars s
  | .bin0 => Sys2Proof.Machine.execBin0 s
  | .bin1 => Sys2Proof.Machine.execBin1 s
  | .binSp => Sys2Proof.Machine.execBinSp s
  | .binUs => Sys2Proof.Machine.execBinUs s
  | .binIll ch => Sys2Proof.Machine.execBinIll ch s
  | .hex0 => Sys2Proof.Machine.execHex0 s
  | .hex1 => Sys2Proof.Machine.execHex1 s
  | .hex2 => Sys2Proof.Machine.execHex2 s
  | .hex3 => Sys2Proof.Machine.execHex3 s
  | .hex4 => Sys2Proof.Machine.execHex4 s
  | .hex5 => Sys2Proof.Machine.execHex5 s
  | .hex6 => Sys2Proof.Machine.execHex6 s
  | .hex7 => Sys2Proof.Machine.execHex7 s
  | .hex8 => Sys2Proof.Machine.execHex8 s
  | .hex9 => Sys2Proof.Machine.execHex9 s
  | .hexUA => Sys2Proof.Machine.execHexUA s
  | .hexUB => Sys2Proof.Machine.execHexUB s
  | .hexUC => Sys2Proof.Machine.execHexUC s
  | .hexUD => Sys2Proof.Machine.execHexUD s
  | .hexUE => Sys2Proof.Machine.execHexUE s
  | .hexUF => Sys2Proof.Machine.execHexUF s
  | .hexLA => Sys2Proof.Machine.execHexLA s
  | .hexLB => Sys2Proof.Machine.execHexLB s
  | .hexLC => Sys2Proof.Machine.execHexLC s
  | .hexLD => Sys2Proof.Machine.execHexLD s
  | .hexLE => Sys2Proof.Machine.execHexLE s
  | .hexLF => Sys2Proof.Machine.execHexLF s
  | .hexIll ch => Sys2Proof.Machine.execHexIll ch s
  | .buildField => Sys2Proof.Machine.execBuildField s
  | .fieldResolve => Sys2Proof.Machine.execFieldResolve s
  | .fmt26 => Sys2Proof.Machine.execFmt26 s
  | .fmt34 => Sys2Proof.Machine.execFmt34 s
  | .fmt35 => Sys2Proof.Machine.execFmt35 s
  | .fmt37 => Sys2Proof.Machine.execFmt37 s
  | .fmt48 => Sys2Proof.Machine.execFmt48 s
  | .fmtIll id => Sys2Proof.Machine.execFmtIll id s
  | .fieldRange => Sys2Proof.Machine.execFieldRange s
  | .fieldCompose => Sys2Proof.Machine.execFieldCompose s
  | .fieldPad => Sys2Proof.Machine.execFieldPad s
  | .par => Sys2Proof.Machine.execPar s
  | .parNone => Sys2Proof.Machine.execParNone s
  | .parWeven => Sys2Proof.Machine.execParWeven s
  | .parWodd => Sys2Proof.Machine.execParWodd s
  | .parStd => Sys2Proof.Machine.execParStd s
  | .fval => Sys2Proof.Machine.execFval s
  | .tx => Sys2Proof.Machine.execTx s
  | .txReq => Sys2Proof.Machine.execTxReq s
  | .txInit => Sys2Proof.Machine.execTxInit s
  | .txSettle => Sys2Proof.Machine.execTxSettle s
  | .pulse0 => Sys2Proof.Machine.execPulse0 s
  | .pulse1 => Sys2Proof.Machine.execPulse1 s
  | .txEnd => Sys2Proof.Machine.execTxEnd s
  | .txRel => Sys2Proof.Machine.execTxRel s
  | .lreq chip z o => Sys2Proof.Machine.execLreq chip z o s
  | .lset1 line level => Sys2Proof.Machine.execLset1 line level s
  | .lsetb levelZ levelO => Sys2Proof.Machine.execLsetb levelZ levelO s
  | .lrel => Sys2Proof.Machine.execLrel s

end Sys2Proof.Machine
end

