-- ==== Sys2Proof/Decode.lean ====
section
/-! DEFINITION. Decoding the selectors (30 R90 to R108), the encoder written from the same tables, and the host's
entry for a word of spec/opcode_table.json. -/

namespace Sys2Proof

/-- Why a code is no operation. -/
inductive Reject where
  /-- CMD1 0: "start = 0 does nothing" (30 R103). -/
  | startLow
  /-- STAGE3 5 to 7 (93 U16). -/
  | stageUnused
  /-- TXSTEP3 6 and 7 (93 U16). -/
  | txStepUnused
  /-- TXSTEP3 3 without the frame bit that completes it (30 R108). -/
  | pulseWithoutBit
  /-- Four bits whose step is not 3 (30 R108). -/
  | notPulse
  /-- A character prefix or a line operation whose operands are not those of its code (30 R101). -/
  | operands
  deriving DecidableEq, Repr

/-- CMD1 (30 R103). -/
def decodeCmd (w : BitVec 1) : Except Reject Instr :=
  if w = 1 then .ok .start else .error .startLow

/-- STAGE3 (30 R108). -/
def decodeStage (w : BitVec 3) : Except Reject Instr :=
  match w.toNat with
  | 0 => .ok .cfgchk
  | 1 => .ok .build
  | 2 => .ok .par
  | 3 => .ok .fval
  | 4 => .ok .tx
  | _ => .error .stageUnused

/-- MODE1: bit 0 is 1 when CR.RAW is present (30 R90). -/
def decodeMode (w : BitVec 1) : Instr :=
  if w = 1 then .buildRaw else .buildField

/-- PREFIX16: c0 in bits 15..8, c1 in bits 7..0 (30 R92). RAW.PREFIX.BIN is the default row. -/
def decodePrefix : Option (BitVec 16) → Instr
  | none => .rawPrefixBin none
  | some w =>
    if w = 0x3078 then .rawPrefixHex false
    else if w = 0x3058 then .rawPrefixHex true
    else .rawPrefixBin (some (w.extractLsb' 8 8, w.extractLsb' 0 8))

/-- The binary-mode rows of LITCHAR9 but the default row (30 R93). -/
def binRows : List (BitVec 9 × Instr) :=
  [(0x030, .bin0), (0x031, .bin1), (0x020, .binSp), (0x05F, .binUs)]

/-- The digit rows of LITCHAR9 that no switch touches (30 R94). -/
def hexUpperRows : List (BitVec 9 × Instr) :=
  [(0x130, .hex0), (0x131, .hex1), (0x132, .hex2), (0x133, .hex3), (0x134, .hex4),
   (0x135, .hex5), (0x136, .hex6), (0x137, .hex7), (0x138, .hex8), (0x139, .hex9),
   (0x141, .hexUA), (0x142, .hexUB), (0x143, .hexUC),
   (0x144, .hexUD), (0x145, .hexUE), (0x146, .hexUF)]

/-- The lower-case digit rows, there only where HEX_LOWER_OK (30 R94). -/
def hexLowerRows : List (BitVec 9 × Instr) :=
  [(0x161, .hexLA), (0x162, .hexLB), (0x163, .hexLC),
   (0x164, .hexLD), (0x165, .hexLE), (0x166, .hexLF)]

/-- The rows of LITCHAR9 but the two default rows. -/
def litRows (lowerOk : Bool) : List (BitVec 9 × Instr) :=
  binRows ++ hexUpperRows ++ (if lowerOk then hexLowerRows else [])

/-- LITCHAR9: hexmode in bit 8, the character in bits 7..0; BIN.ILL and HEX.ILL are the default rows (30 R108). -/
def decodeLit (lowerOk : Bool) (w : BitVec 9) : Instr :=
  match (litRows lowerOk).lookup w with
  | some i => i
  | none => if w.getLsbD 8 then .hexIll (w.setWidth 8) else .binIll (w.setWidth 8)

/-- FSTEP2 has no unused value (30 R108). -/
def decodeFstep (w : BitVec 2) : Instr :=
  match w.toNat with
  | 0 => .fieldResolve
  | 1 => .fieldRange
  | 2 => .fieldCompose
  | _ => .fieldPad

/-- FMTID8; FMT.ILL is the default row (30 R104, R105). -/
def decodeFormat (w : BitVec 8) : Instr :=
  match w.toNat with
  | 26 => .fmt26
  | 34 => .fmt34
  | 35 => .fmt35
  | 37 => .fmt37
  | 48 => .fmt48
  | _ => .fmtIll w

/-- PARSEL2: "All four codes are legal" (30 R106). -/
def decodeParity (w : BitVec 2) : Instr :=
  match w.toNat with
  | 0 => .parNone
  | 1 => .parWeven
  | 2 => .parWodd
  | _ => .parStd

/-- TXSTEP3 without a frame bit (30 R108). -/
def decodeTxStep (w : BitVec 3) : Except Reject Instr :=
  match w.toNat with
  | 0 => .ok .txReq
  | 1 => .ok .txInit
  | 2 => .ok .txSettle
  | 3 => .error .pulseWithoutBit
  | 4 => .ok .txEnd
  | 5 => .ok .txRel
  | _ => .error .txStepUnused

/-- The four bits of step 3 and the frame bit: step in bits 3..1, b in bit 0 (30 R100, R108). -/
def decodePulse (w : BitVec 4) : Except Reject Instr :=
  match w.toNat with
  | 6 => .ok .pulse0
  | 7 => .ok .pulse1
  | _ => .error .notPulse

/-- Level encoding: 1 is high, 0 is low (30 R102). -/
def levelOfBit (b : BitVec 1) : Level := if b = 1 then .high else .low

/-- The bit of a level (30 R102). -/
def bitOfLevel : Level → BitVec 1
  | .low => 0
  | .high => 1

/-- `sel` of LSET1: 0 the zero-line, 1 the one-line (30 R101). -/
def lineOfBit (b : BitVec 1) : Line := if b = 1 then .one else .zero

/-- The `sel` bit of a line (30 R101). -/
def bitOfLine : Line → BitVec 1
  | .zero => 0
  | .one => 1

/-- LINEOP2 with its operands in the order of 30 R101. -/
def decodeLineOp (op : BitVec 2) (operands : List Operand) : Except Reject Instr :=
  match op.toNat, operands with
  | 0, [.str chip, .offset z, .offset o] => .ok (.lreq chip z o)
  | 1, [.bit sel, .bit level] => .ok (.lset1 (lineOfBit sel) (levelOfBit level))
  | 2, [.bit levelZ, .bit levelO] => .ok (.lsetb (levelOfBit levelZ) (levelOfBit levelO))
  | 3, [] => .ok .lrel
  | _, _ => .error .operands

/-- The decoder, total on every code of every format. -/
def decode : Code → Except Reject Instr
  | .cmd1 w => decodeCmd w
  | .stage3 w => decodeStage w
  | .mode1 w => .ok (decodeMode w)
  | .prefix16 w => .ok (decodePrefix w)
  | .litchar9 w => .ok (decodeLit Config.hexLowerOk w)
  | .fstep2 w => .ok (decodeFstep w)
  | .fmtid8 w => .ok (decodeFormat w)
  | .parsel2 w => .ok (decodeParity w)
  | .txstep3 w => decodeTxStep w
  | .pulse4 w => decodePulse w
  | .lineop2 op operands => decodeLineOp op operands

/-- A character as a LITCHAR9 code: hexmode in bit 8 (30 R90). -/
def litCode (hexmode : Bool) (ch : Byte) : BitVec 9 :=
  (if hexmode then 0x100 else 0x000) ||| ch.setWidth 9

/-- Two characters as a PREFIX16 code: c0 in bits 15..8 (30 R90). -/
def prefixCode (c0 c1 : Byte) : BitVec 16 :=
  (c0.setWidth 16 <<< 8) ||| c1.setWidth 16

/-- The encoder: the code of an operation, from the same tables (30 R92 to R108). -/
def encode : Instr → Code
  | .start => .cmd1 1
  | .cfgchk => .stage3 0
  | .build => .stage3 1
  | .par => .stage3 2
  | .fval => .stage3 3
  | .tx => .stage3 4
  | .buildRaw => .mode1 1
  | .buildField => .mode1 0
  | .rawPrefixHex upper => .prefix16 (some (if upper then 0x3058 else 0x3078))
  | .rawPrefixBin none => .prefix16 none
  | .rawPrefixBin (some (c0, c1)) => .prefix16 (some (prefixCode c0 c1))
  | .bin0 => .litchar9 0x030
  | .bin1 => .litchar9 0x031
  | .binSp => .litchar9 0x020
  | .binUs => .litchar9 0x05F
  | .binIll ch => .litchar9 (litCode false ch)
  | .hex0 => .litchar9 0x130
  | .hex1 => .litchar9 0x131
  | .hex2 => .litchar9 0x132
  | .hex3 => .litchar9 0x133
  | .hex4 => .litchar9 0x134
  | .hex5 => .litchar9 0x135
  | .hex6 => .litchar9 0x136
  | .hex7 => .litchar9 0x137
  | .hex8 => .litchar9 0x138
  | .hex9 => .litchar9 0x139
  | .hexUA => .litchar9 0x141
  | .hexUB => .litchar9 0x142
  | .hexUC => .litchar9 0x143
  | .hexUD => .litchar9 0x144
  | .hexUE => .litchar9 0x145
  | .hexUF => .litchar9 0x146
  | .hexLA => .litchar9 0x161
  | .hexLB => .litchar9 0x162
  | .hexLC => .litchar9 0x163
  | .hexLD => .litchar9 0x164
  | .hexLE => .litchar9 0x165
  | .hexLF => .litchar9 0x166
  | .hexIll ch => .litchar9 (litCode true ch)
  | .fieldResolve => .fstep2 0
  | .fieldRange => .fstep2 1
  | .fieldCompose => .fstep2 2
  | .fieldPad => .fstep2 3
  | .fmt26 => .fmtid8 26
  | .fmt34 => .fmtid8 34
  | .fmt35 => .fmtid8 35
  | .fmt37 => .fmtid8 37
  | .fmt48 => .fmtid8 48
  | .fmtIll id => .fmtid8 id
  | .parNone => .parsel2 0
  | .parWeven => .parsel2 1
  | .parWodd => .parsel2 2
  | .parStd => .parsel2 3
  | .txReq => .txstep3 0
  | .txInit => .txstep3 1
  | .txSettle => .txstep3 2
  | .txEnd => .txstep3 4
  | .txRel => .txstep3 5
  | .pulse0 => .pulse4 6
  | .pulse1 => .pulse4 7
  | .lreq chip z o => .lineop2 0 [.str chip, .offset z, .offset o]
  | .lset1 line level => .lineop2 1 [.bit (bitOfLine line), .bit (bitOfLevel level)]
  | .lsetb levelZ levelO => .lineop2 2 [.bit (bitOfLevel levelZ), .bit (bitOfLevel levelO)]
  | .lrel => .lineop2 3 []

/-- The code of a word of spec/opcode_table.json given by its bits alone. The eleven formats are separate code spaces
(30 R90), so one word can be a row of several of them: the answer is the FIRST row of the table, in the table's order and
with the default rows last, whose format is as long as the word and whose match and mask fit it (log 16). -/
def tableCode (nbits w : Nat) : Option Code :=
  if nbits ≤ 8 then
    if w = 1 then some (.cmd1 1)
    else if w ≤ 4 then some (.stage3 (.ofNat 3 w))
    else if w = 5 then some (.txstep3 5)
    else if w ≤ 7 then some (.pulse4 (.ofNat 4 w))
    else if w < 2 ^ 8 then some (.fmtid8 (.ofNat 8 w))
    else none
  else if nbits ≤ 16 then
    if w < 2 ^ 9 then some (.litchar9 (.ofNat 9 w))
    else if w < 2 ^ 16 then some (.prefix16 (some (.ofNat 16 w)))
    else none
  else none

/-- The operation the decoder reads from a word of spec/opcode_table.json (log 16). -/
def decodeTableWord (nbits w : Nat) : Option Instr :=
  match tableCode nbits w with
  | none => none
  | some c =>
    match decode c with
    | .ok i => some i
    | .error _ => none

end Sys2Proof
end

