-- ==== Sys2Proof/Machine/Sequencer.lean ====
section
/-! DEFINITION. The sequencer: which code the block decodes in a state, what it does between operations, and the host's
commands (40, 30 R108). -/

namespace Sys2Proof.Machine

/-- The STAGE3 code of a stage (30 R108). -/
def Stage.code : Stage → BitVec 3
  | .cfgchk => 0
  | .build => 1
  | .par => 2
  | .fval => 3
  | .tx => 4

/-- The FSTEP2 code of a field-mode sub-step (30 R108). -/
def FieldStep.code : FieldStep → BitVec 2
  | .resolve => 0
  | .range => 1
  | .compose => 2
  | .pad => 3

/-- The TXSTEP3 code of a transmitter step (30 R108). -/
def TxStep.code : TxStep → BitVec 3
  | .req => 0
  | .init => 1
  | .settle => 2
  | .pulse => 3
  | .terminal => 4
  | .rel => 5

/-- TXSTEP3 = 3 followed by FRAMEBIT1 (30 R108). -/
def pulseCode (b : Bit) : BitVec 4 := if b then 7 else 6

/-- A line operation as LINEOP2 with its operands (30 R101). -/
def LineOp.code : LineOp → Code
  | .lreq chip z o => .lineop2 0 [.str chip, .offset z, .offset o]
  | .lset1 line level => .lineop2 1 [.bit (bitOfLine line), .bit (bitOfLevel level)]
  | .lsetb levelZ levelO => .lineop2 2 [.bit (bitOfLevel levelZ), .bit (bitOfLevel levelO)]
  | .lrel => .lineop2 3 []

/-- PREFIX16 of a literal: its first two characters, none where RAW_LEN < 2 (30 R92). -/
def prefixOf : List Byte → Option (BitVec 16)
  | c0 :: c1 :: _ => some (prefixCode c0 c1)
  | _ => none

/-- The code that the sequencer's place selects; none at a hold, at the end of a loop and at the end of RUN. -/
def State.seqCode (s : State) : Option Code :=
  match s.seq with
  | .stage n => some (.stage3 n.code)
  | .mode => some (.mode1 (if s.cr.raw.isSome then 1 else 0))
  | .litPrefix => some (.prefix16 (prefixOf s.rawChars))
  | .literal =>
    match s.rawChars[s.k]? with
    | some ch => some (.litchar9 (litCode s.hexmode ch))
    | none => none
  | .fstep n => some (.fstep2 n.code)
  | .format => some (.fmtid8 s.cr.format)
  | .parity => some (.parsel2 s.cr.parity)
  | .txstep .pulse =>
    match s.frame[s.i]? with
    | some b => some (.pulse4 (pulseCode b))
    | none => none
  | .txstep .req => some (.txstep3 TxStep.req.code)
  | .txstep .init => some (.txstep3 TxStep.init.code)
  | .txstep .settle => some (.txstep3 TxStep.settle.code)
  | .txstep .terminal => some (.txstep3 TxStep.terminal.code)
  | .txstep .rel => some (.txstep3 TxStep.rel.code)
  | .lineop op => some op.code
  | .hold _ => none
  | .finish => none

/-- The code decoded in this state: in READY and DONE the host's start command, in a run the sequencer's (40 R120,
R121). -/
def State.fetch (s : State) : Option Code :=
  match s.phase with
  | .ready | .done =>
    match s.host with
    | .command b :: _ => some (.cmd1 b)
    | _ => none
  | .encoding | .transmitting => s.seqCode

/-- The state an operation runs in: a start command is taken from the host's commands, nothing else is consumed. -/
def State.afterFetch (s : State) : State :=
  match s.phase with
  | .ready | .done => { s with host := s.host.tail }
  | .encoding | .transmitting => s

/-- A code that is no operation: "start = 0 does nothing" (30 R103); no other is ever fetched (93 U16). -/
def State.onReject (s : State) (r : Reject) : Result :=
  match r with
  | .startLow => .next s.afterFetch
  | .stageUnused | .txStepUnused | .pulseWithoutBit | .notPulse | .operands => .refused .unusedCode

/-- RESET, 70 R260: every piece of the spec's state takes its reset value, with no line operation; the inputs and the
count of draws, which are not WFE's state, go on (log 20). -/
def State.hostReset (s : State) : State :=
  { State.reset with host := s.host.tail, answers := s.answers, draws := s.draws }

/-- READY without a start command: a host write is stored, a reset is taken, and otherwise "nothing else happens"
(10 R37, 40 R124; log 3). -/
def State.idleReady (s : State) : Result :=
  match s.host with
  | .write w :: rest => .next { s with cr := w.apply s.cr, host := rest }
  | .reset :: _ => .next s.hostReset
  | .command _ :: rest => .next { s with host := rest }
  | [] => .next s

/-- DONE: "nothing further happens until reset" (10 R37; log 21); a write has no step (10 R31). -/
def State.idleDone (s : State) : Result :=
  match s.host with
  | .write _ :: _ => .refused .hostWriteOutsideReady
  | .reset :: _ => .next s.hostReset
  | .command _ :: rest => .next { s with host := rest }
  | [] => .next s

/-- The end of RUN: `EXIT <- present(0); DIAG <- empty; PHASE <- DONE` (40 R121). -/
def State.endRun (s : State) : State := { s with exit := some Config.exitOk, diag := [], phase := .done }

/-- What the sequencer does where it decodes no code: the literal's loop ends at K = RAW_LEN (42 R141), the pulse loop at
I = L (45 R187), a hold counts down (45 R199), RUN ends (40 R121). Every other place has a code. -/
def State.sequence (s : State) : Result :=
  match s.phase with
  | .ready => s.idleReady
  | .done => s.idleDone
  | .encoding | .transmitting =>
    match s.seq with
    | .literal => s.endBuild Config.emptyDataOk
    | .txstep _ => .next (s.goto (.txstep .terminal))
    | .hold k => .next (s.holdTick k)
    | .finish => .next s.endRun
    | .stage _ | .mode | .litPrefix | .fstep _ | .format | .parity | .lineop _ => .next s

/-- What the host reads: "may read PHASE, EXIT, DIAG at any time" (40 R124), "and CAUSE as a device of the spec" (10 R45;
log 10), and every configuration register (10 R20). A read has no side effect. -/
structure HostView where
  cr : ConfigRegs
  phase : Phase
  exit : Option Nat
  diag : List (List Byte)
  cause : Option Cause
  deriving DecidableEq, Repr

/-- The host's view of a state (40 R124, 10 R45). -/
def State.hostView (s : State) : HostView := ⟨s.cr, s.phase, s.exit, s.diag, s.cause⟩

/-- The place of the pipeline, with the registers that its selector is made of, set so that the next step decodes exactly
`c` (log 17). -/
def State.withCode (s : State) (c : Code) : State :=
  match c with
  | .cmd1 w => { s with phase := .ready, host := .command w :: s.host }
  | .stage3 w =>
    let n : Stage := match w.toNat with
      | 0 => .cfgchk
      | 1 => .build
      | 2 => .par
      | 3 => .fval
      | _ => .tx
    { s with phase := .encoding, seq := .stage n }
  | .mode1 w =>
    { s with
      phase := .encoding, seq := .mode
      cr := { s.cr with raw := if w = 1 then some s.rawChars else none } }
  | .prefix16 none => { s with phase := .encoding, seq := .litPrefix, cr := { s.cr with raw := some [] } }
  | .prefix16 (some w) =>
    { s with
      phase := .encoding, seq := .litPrefix
      cr := { s.cr with raw := some [w.extractLsb' 8 8, w.extractLsb' 0 8] } }
  | .litchar9 w =>
    { s with
      phase := .encoding, seq := .literal, k := 0, hexmode := w.getLsbD 8
      cr := { s.cr with raw := some [w.setWidth 8] } }
  | .fstep2 w =>
    let n : FieldStep := match w.toNat with
      | 0 => .resolve
      | 1 => .range
      | 2 => .compose
      | _ => .pad
    { s with phase := .encoding, seq := .fstep n }
  | .fmtid8 w => { s with phase := .encoding, seq := .format, cr := { s.cr with format := w } }
  | .parsel2 w => { s with phase := .encoding, seq := .parity, cr := { s.cr with parity := w } }
  | .txstep3 w =>
    let n : TxStep := match w.toNat with
      | 0 => .req
      | 1 => .init
      | 2 => .settle
      | 4 => .terminal
      | _ => .rel
    { s with phase := .transmitting, seq := .txstep n }
  | .pulse4 w => { s with phase := .transmitting, seq := .txstep .pulse, i := 0, frame := [w.getLsbD 0] }
  | .lineop2 op operands =>
    match op.toNat, operands with
    | 0, [.str chip, .offset z, .offset o] =>
      { s with phase := .transmitting, seq := .lineop (.lreq chip z o) }
    | 1, [.bit sel, .bit level] =>
      { s with phase := .transmitting, seq := .lineop (.lset1 (lineOfBit sel) (levelOfBit level)) }
    | 2, [.bit levelZ, .bit levelO] =>
      { s with phase := .transmitting, seq := .lineop (.lsetb (levelOfBit levelZ) (levelOfBit levelO)) }
    | _, _ => { s with phase := .transmitting, seq := .lineop .lrel }

end Sys2Proof.Machine
end

