-- ==== Sys2Proof/Machine/Step.lean ====
section
/-! DEFINITION. One step of the block: the operation that the sequencer's place selects, or what the sequencer does
between operations. -/

namespace Sys2Proof.Machine

/-- One step (40 R121; log 1). -/
def step (s : State) : Host.Outcome State Fault Refusal :=
  match s.fetch with
  | some c =>
    match decode c with
    | .ok i => exec i s.afterFetch
    | .error r => s.onReject r
  | none => s.sequence

/-- The state in which the next step decodes the word `w` of spec/opcode_table.json; unchanged where the word is no row
(log 16, log 17). -/
def State.withFetchWord (s : State) (nbits w : Nat) : State :=
  match tableCode nbits w with
  | some c => s.withCode c
  | none => s

end Sys2Proof.Machine
end

