-- ==== Sys2Proof/Machine/Reference.lean ====
section
/-! DEFINITION. What a whole run is to compute, written from the spec without the sequencer: the frame of a configuration
(41 to 44) and the flat list of the transmission (45 R187); and what a run shows on the line interface. -/

namespace Sys2Proof.Machine

/-! ### The frame of a configuration -/

/-- The value of a hex digit character, none for any other character (30 R95). -/
def digitValue (lowerOk : Bool) (ch : Byte) : Option Nat :=
  let c := ch.toNat
  if 0x30 ≤ c ∧ c ≤ 0x39 then some (c - 0x30)
  else if 0x41 ≤ c ∧ c ≤ 0x46 then some (c - 0x37)
  else if lowerOk ∧ 0x61 ≤ c ∧ c ≤ 0x66 then some (c - 0x57)
  else none

/-- The bits that a character of the literal yields: one for a binary digit, four for a hex digit, none for a separator
(30 R98); no value where the character is illegal (30 R97). -/
def charBits (lowerOk hex : Bool) (ch : Byte) : Option BitSeq :=
  if hex then
    (digitValue lowerOk ch).map fun v => [bitAt v 3, bitAt v 2, bitAt v 1, bitAt v 0]
  else if ch = 0x30 then some [false]
  else if ch = 0x31 then some [true]
  else if ch = 0x20 ∨ ch = 0x5F then some []
  else none

/-- The characters from the cursor on, after the bits `acc`: strictly left to right, the first error wins (42 R141,
R158). -/
def parseChars (lowerOk hex : Bool) : List Byte → BitSeq → Except Cause BitSeq
  | [], acc => .ok acc
  | ch :: rest, acc =>
    match charBits lowerOk hex ch with
    | none => .error .rawChar
    | some bits =>
      if Config.dataCap < acc.length + bits.length then .error .capacity
      else parseChars lowerOk hex rest (acc ++ bits)

/-- A whole literal: hex behind the prefix `0x` or `0X`, else binary (30 R92). -/
def parseLiteral (lowerOk : Bool) (s : List Byte) : Except Cause BitSeq :=
  match s with
  | c0 :: c1 :: rest =>
    if c0 = 0x30 ∧ (c1 = 0x78 ∨ c1 = 0x58) then parseChars lowerOk true rest []
    else parseChars lowerOk false s []
  | _ => parseChars lowerOk false s []

/-- The widths of field mode (42 R153). -/
def ConfigRegs.widths (r : ConfigRegs) : Except Cause (Nat × Nat) :=
  match r.facilityBits, r.cardBits, preset r.format with
  | some a, some b, _ => .ok (a, b)
  | fb, cb, some (pf, pc) => .ok (fb.getD pf, cb.getD pc)
  | _, _, none => .error .format

/-- The data sequence of field mode: range, composition and pad (42 R155, R156, R157). -/
def ConfigRegs.fieldData (r : ConfigRegs) : Except Cause BitSeq :=
  match r.widths with
  | .error c => .error c
  | .ok (fb, cb) =>
    if ¬ (r.facility < 2 ^ fb ∧ r.card < 2 ^ cb) then .error .fieldRange
    else if Config.dataCap < fb + cb then .error .capacity
    else
      let d := msbFirst r.facility fb ++ msbFirst r.card cb
      match r.frameBits with
      | none => .ok d
      | some e =>
        if r.parity ≠ 0 then .ok d
        else if e < fb + cb then .error .padShort
        else if Config.dataCap < e then .error .padCap
        else .ok (zeros (e - (fb + cb)) ++ d)

/-- The data sequence (42 R140). -/
def ConfigRegs.dataOf (r : ConfigRegs) : Except Cause BitSeq :=
  match r.raw with
  | some s => parseLiteral Config.hexLowerOk s
  | none => r.fieldData

/-- The frame of a data sequence under a parity selector (43 R170 to R174). -/
def frameOfData (sel : BitVec 2) (d : BitSeq) : BitSeq :=
  match sel.toNat with
  | 0 => d
  | 1 => d ++ [wholeEvenBit Config.wholeSense (ones d)]
  | 2 => d ++ [wholeOddBit Config.wholeSense (ones d)]
  | _ => stdFrame d

/-- The frame that a configuration yields, or the cause of the FatalError that ends its run before any line operation
(40 R121, 60 R237). -/
def ConfigRegs.frameOf (r : ConfigRegs) : Except Cause BitSeq :=
  match r.check with
  | some c => .error c
  | none =>
    match r.dataOf with
    | .error c => .error c
    | .ok d =>
      match r.frameBits with
      | none => .ok (frameOfData r.parity d)
      | some e => if e = (frameOfData r.parity d).length then .ok (frameOfData r.parity d) else .error .frameLen

/-! ### The transmission -/

/-- An entry of txops: a line operation or a hold of so many microseconds (45 R187). -/
inductive TxEntry where
  | op (o : LineOp)
  | hold (us : Nat)
  deriving DecidableEq, Repr

/-- The four entries of one frame bit (45 R187, R193). -/
def pulseEntries (p s : Nat) (b : Bit) : List TxEntry :=
  [.op (.lset1 (lineOf b) .low), .hold p, .op (.lset1 (lineOf b) .high), .hold s]

/-- `txops(F, p, s)`, 45 R187. -/
def txops (chip : List Byte) (z o : Nat) (f : BitSeq) (p s : Nat) : List TxEntry :=
  [.op (.lreq chip z o), .op (.lsetb .high .high), .hold Config.settleUs]
    ++ f.flatMap (pulseEntries p s)
    ++ [.op (.lsetb .high .high), .op .lrel]

/-! ### What a run shows -/

/-- What a step shows on the line interface: a line operation that is issued, or a microsecond of a hold. -/
inductive Event where
  | op (o : LineOp)
  | tick
  deriving DecidableEq, Repr

/-- What the step from this state shows; nothing for an operation inside the block. -/
def State.event (s : State) : Option Event :=
  match s.phase with
  | .ready | .done => none
  | .encoding | .transmitting =>
    match s.seq with
    | .lineop o => some (.op o)
    | .hold _ => if s.timer = 0 then none else some .tick
    | .stage _ | .mode | .litPrefix | .literal | .fstep _ | .format | .parity | .txstep _ | .finish => none

/-- What `n` steps show, in order. -/
def events : Nat → State → List Event
  | 0, _ => []
  | n + 1, s =>
    s.event.toList ++
      match step s with
      | .next t => events n t
      | .fault _ | .refused _ => []

/-- What an entry of txops shows: a hold of t microseconds is t ticks (45 R199). -/
def TxEntry.shown : TxEntry → List Event
  | .op o => [.op o]
  | .hold us => List.replicate us .tick

/-- The falling edges of a list of events, by line: what a receiver counts as bits (20 R78, 45 R202). -/
def fallingEdges (l : List Event) : List Line :=
  l.filterMap fun
    | .op (.lset1 a .low) => some a
    | _ => none

end Sys2Proof.Machine
end

