-- ==== Sys2Proof/Safety.lean ====
section
/-! DEFINITION. What holds of every state that a run can reach, in the terms the claims use. -/

namespace Sys2Proof.Machine

/-- EXIT, DIAG and CAUSE belong to DONE: nothing before it; then success with no line, or status 2 with exactly one line
and a cause (10 R42, R43, R44). -/
def State.statusInv (s : State) : Prop :=
  match s.phase with
  | .ready | .encoding | .transmitting => s.exit = none ∧ s.diag = [] ∧ s.cause = none
  | .done =>
    (s.exit = some Config.exitOk ∧ s.diag = [] ∧ s.cause = none) ∨
      (s.exit = some Config.exitFatal ∧ s.diag.length = 1 ∧ s.cause.isSome)

/-- The stores are within bounds: DLEN ≤ 512, FLEN ≤ 514, K ≤ RAW_LEN, I ≤ FLEN (10 R32, R33, R35, R36). -/
def State.boundsInv (s : State) : Prop :=
  s.data.length ≤ Config.dataCap ∧ s.frame.length ≤ Config.dataCap + 2 ∧ s.k ≤ s.rawChars.length ∧
    s.i ≤ s.frame.length

/-- The transmitter has not begun (10 R38, R40, 40 R122). -/
def State.linesUntouched (s : State) : Prop :=
  s.owned = false ∧ s.txs = .off ∧ s.i = 0 ∧ s.stepIx = 0 ∧ s.timer = 0

/-- Both lines are owned and high (30 R102). -/
def State.linesIdle (s : State) : Prop := s.owned = true ∧ s.lvl0 = .high ∧ s.lvl1 = .high

/-- Both lines are owned, line `a` is low and the other high (45 R193). -/
def State.lineLow (s : State) (a : Line) : Prop :=
  s.owned = true ∧ s.lvl0 = (if a = .zero then .low else .high) ∧ s.lvl1 = (if a = .one then .low else .high)

/-- The transmitter stands inside the pulse of frame bit I, which selects line `a` (45 R187, R191, R192). -/
def State.inPulse (s : State) (a : Line) : Prop :=
  s.txs = .pulsing s.i ∧ s.frame[s.i]?.map lineOf = some a

/-- CFGCHK has passed and BUILD has set MODE (41 R130, 10 R34). -/
def State.builtInv (s : State) : Prop :=
  s.cr.check = none ∧ (s.mode = .raw ↔ s.cr.raw.isSome)

/-- The gate has passed: a present expectation equals FLEN (44 R180). -/
def State.gateInv (s : State) : Prop :=
  s.builtInv ∧ ∀ e, s.cr.frameBits = some e → e = s.frame.length

/-- The place of ENCODING, with what the stages before it have established (40 R121). No line operation has a place
there (40 R122). -/
def State.encodingInv (s : State) : Prop :=
  match s.seq with
  | .stage .cfgchk => True
  | .stage .build => s.cr.check = none
  | .mode | .litPrefix | .literal | .fstep _ | .format | .stage .par | .parity | .stage .fval => s.builtInv
  | .stage .tx => s.gateInv
  | .txstep _ | .lineop _ | .hold _ | .finish => False

/-- The place of TRANSMITTING: STEP is the index in txops, and OWNED, the levels, TXS, I and TIMER are what txops up to
there leaves (45 R187, R194, R199). -/
def State.transmittingInv (s : State) : Prop :=
  match s.seq with
  | .txstep .req => s.linesUntouched
  | .lineop (.lreq chip z o) =>
    chip = s.cr.chip ∧ s.lineOffset .zero = some z ∧ s.lineOffset .one = some o ∧
      s.owned = false ∧ s.txs = .idle ∧ s.stepIx = 0 ∧ s.i = 0 ∧ s.timer = 0
  | .txstep .init => s.linesIdle ∧ s.txs = .idle ∧ s.stepIx = 1 ∧ s.i = 0 ∧ s.timer = 0
  | .txstep .settle => s.linesIdle ∧ s.txs = .idle ∧ s.stepIx = 2 ∧ s.i = 0 ∧ s.timer = 0
  | .hold .settle =>
    s.linesIdle ∧ s.txs = .idle ∧ s.stepIx = 2 ∧ s.i = 0 ∧ s.timer ≤ Config.settleUs
  | .txstep .pulse => s.linesIdle ∧ s.stepIx = 3 + 4 * s.i ∧ s.timer = 0
  | .lineop (.lset1 a .low) => s.linesIdle ∧ s.inPulse a ∧ s.stepIx = 3 + 4 * s.i ∧ s.timer = 0
  | .hold (.pulse a) => s.lineLow a ∧ s.inPulse a ∧ s.stepIx = 4 + 4 * s.i ∧ s.timer ≤ s.cr.pulseUs
  | .lineop (.lset1 a .high) => s.lineLow a ∧ s.inPulse a ∧ s.stepIx = 5 + 4 * s.i ∧ s.timer = 0
  | .hold .space =>
    s.linesIdle ∧ (∃ a, s.inPulse a) ∧ s.stepIx = 6 + 4 * s.i ∧ s.timer ≤ s.cr.spaceUs
  | .txstep .terminal =>
    s.linesIdle ∧ s.i = s.frame.length ∧ s.stepIx = 3 + 4 * s.frame.length ∧ s.timer = 0
  | .lineop (.lsetb vz vo) =>
    s.linesIdle ∧ vz = .high ∧ vo = .high ∧ s.timer = 0 ∧
      ((s.stepIx = 1 ∧ s.txs = .idle ∧ s.i = 0) ∨
        (s.stepIx = 3 + 4 * s.frame.length ∧ s.i = s.frame.length))
  | .txstep .rel | .lineop .lrel =>
    s.linesIdle ∧ s.i = s.frame.length ∧ s.stepIx = 4 + 4 * s.frame.length ∧ s.timer = 0
  | .finish =>
    s.owned = false ∧ s.lvl0 = .high ∧ s.lvl1 = .high ∧ s.txs = .settled ∧ s.i = s.frame.length ∧
      s.stepIx = 5 + 4 * s.frame.length ∧ s.timer = 0
  | .stage _ | .mode | .litPrefix | .literal | .fstep _ | .format | .parity => False

/-- What the phase says of the sequencer and the lines. In READY nothing has begun (10 R37, R47). -/
def State.phaseInv (s : State) : Prop :=
  match s.phase with
  | .ready => s.linesUntouched ∧ s.k = 0
  | .encoding => s.linesUntouched ∧ s.encodingInv
  | .transmitting => s.gateInv ∧ s.transmittingInv
  | .done => True

/-- The invariant of the block. -/
def State.inv (s : State) : Prop := s.statusInv ∧ s.boundsInv ∧ s.phaseInv

end Sys2Proof.Machine
end

