-- ==== Sys2Proof/Certificates/Slice0/Obligations.lean ====
section
/-! DEFINITION. The statements for the provers. A result statement gives the whole next state, so that it says the frame
too: every field that its record does not name is unchanged. `s.answer` is the controller's answer, and a statement that
does not assume which one it is holds for both. -/

open Sys2Proof Sys2Proof.Machine

/-! ### Encoding -/

/-- 30 R108: no operand is lost by the encoder and the decoder, for every well-formed operation of the table. -/
def Obligations.DecodingUndoesEncoding : Prop :=
  ∀ i : Instr, i.wf = true → decode (encode i) = .ok i

/-- 30 R108: a code that is an operation is the code of that operation, so no two codes share one; what is decoded is
well formed, but for a request that names one line twice, which only CFGCHK rules out (41 R132). -/
def Obligations.EncodingUndoesDecoding : Prop :=
  ∀ (c : Code) (i : Instr), decode c = .ok i →
    encode i = c ∧ ((∀ chip z, i ≠ .lreq chip z z) → i.wf = true)

/-- One word of each format, from the tables of 30. Two of the words rest on the switch HEX_LOWER_OK, which 00 R8 leaves to
the model, at its default (log 13, DESIGN CHOICE), and on the spec's own decision 92 D12: that 0x161 is HEX.a, and that the
underscore in hex mode, 0x15F, is HEX.ILL. -/
def Obligations.SampleWordsDecode : Prop :=
  decode (.cmd1 0b1) = .ok .start ∧
  decode (.stage3 0b100) = .ok .tx ∧
  decode (.mode1 0b0) = .ok .buildField ∧
  decode (.prefix16 (some 0b0011000001011000)) = .ok (.rawPrefixHex true) ∧
  decode (.litchar9 0b000110001) = .ok .bin1 ∧
  decode (.litchar9 0b101100001) = .ok .hexLA ∧
  decode (.litchar9 0b101011111) = .ok (.hexIll 0x5F) ∧
  decode (.fstep2 0b10) = .ok .fieldCompose ∧
  decode (.fmtid8 0b00100101) = .ok .fmt37 ∧
  decode (.parsel2 0b01) = .ok .parWeven ∧
  decode (.txstep3 0b101) = .ok .txRel ∧
  decode (.pulse4 0b0111) = .ok .pulse1 ∧
  decode (.lineop2 0b01 [.bit 1, .bit 0]) = .ok (.lset1 .one .low)

/-- 30 R108, 93 U16: the sequencer produces only listed codes. The one other code a step meets is a start command of 0
(30 R103). -/
def Obligations.SequencerProducesOnlyListedCodes : Prop :=
  ∀ (s : State) (c : Code), s.fetch = some c → c = .cmd1 0 ∨ ∃ i, decode c = .ok i

/-! ### The step -/

/-- A step is the operation that the fetched code decodes to. In a run the operation sees the state as it is; in READY
and DONE the code is a start command, which is taken from the host's commands (40 R120). -/
def Obligations.StepRunsDecodedOperation : Prop :=
  ∀ (s : State) (c : Code) (i : Instr), s.fetch = some c → decode c = .ok i →
    step s = exec i s.afterFetch ∧
    (s.phase = .encoding ∨ s.phase = .transmitting → s.afterFetch = s) ∧
    (s.phase = .ready ∨ s.phase = .done → s.afterFetch = { s with host := s.host.tail })

/-- The model's placing of a code (log 17): whatever the state, the next step fetches exactly it. -/
def Obligations.PlacedCodeIsFetched : Prop :=
  ∀ (s : State) (i : Instr), i.wf = true → (s.withCode (encode i)).fetch = some (encode i)

/-! ### Reset and the host -/

/-- 10 R47: the values the spec's reset table gives. -/
def Obligations.ResetValues : Prop :=
  State.reset.cr = { chip := [0x67, 0x70, 0x69, 0x6F, 0x63, 0x68, 0x69, 0x70, 0x30], d0 := none, d1 := none,
                     format := 26, facilityBits := none, cardBits := none, facility := 0, card := 0, raw := none,
                     parity := 3, frameBits := none, pulseUs := 50, spaceUs := 1000 } ∧
  State.reset.dlen = 0 ∧ State.reset.flen = 0 ∧ State.reset.k = 0 ∧ State.reset.i = 0 ∧
  State.reset.phase = .ready ∧ State.reset.txs = .off ∧ State.reset.stepIx = 0 ∧ State.reset.timer = 0 ∧
  State.reset.owned = false ∧ State.reset.exit = none ∧ State.reset.diag = [] ∧ State.reset.cause = none

/-- 40 R120, 30 R103: START runs in READY and has no step in any other phase. -/
def Obligations.StartBeginsRun : Prop :=
  ∀ s : State,
    (s.phase = .ready → exec .start s = .next { s with phase := .encoding, seq := .stage .cfgchk }) ∧
    (s.phase ≠ .ready → exec .start s = .refused .startOutsideReady)

/-- 40 R124, 10 R20, R22, R31, R37, 70 R260: in READY a write of each of CR0 to CR12 is stored in that register and changes
no other, an optional register becoming present (a write is of a present value only, log 24); a start command of 1 begins
the run, one of 0 does nothing, a reset resets, and without a command nothing happens. The queue of commands is the
model's (log 3), and a reset leaves it, the answers and the draw count (log 20). -/
def Obligations.HostCommandsInReady : Prop :=
  ∀ (s : State) (rest : List HostCommand), s.phase = .ready →
    (∀ v, s.host = .write (.chip v) :: rest → step s = .next { s with cr := { s.cr with chip := v }, host := rest }) ∧
    (∀ v, s.host = .write (.d0 v) :: rest → step s = .next { s with cr := { s.cr with d0 := some v }, host := rest }) ∧
    (∀ v, s.host = .write (.d1 v) :: rest → step s = .next { s with cr := { s.cr with d1 := some v }, host := rest }) ∧
    (∀ v, s.host = .write (.format v) :: rest →
      step s = .next { s with cr := { s.cr with format := v }, host := rest }) ∧
    (∀ v, s.host = .write (.facilityBits v) :: rest →
      step s = .next { s with cr := { s.cr with facilityBits := some v }, host := rest }) ∧
    (∀ v, s.host = .write (.cardBits v) :: rest →
      step s = .next { s with cr := { s.cr with cardBits := some v }, host := rest }) ∧
    (∀ v, s.host = .write (.facility v) :: rest →
      step s = .next { s with cr := { s.cr with facility := v }, host := rest }) ∧
    (∀ v, s.host = .write (.card v) :: rest → step s = .next { s with cr := { s.cr with card := v }, host := rest }) ∧
    (∀ v, s.host = .write (.raw v) :: rest →
      step s = .next { s with cr := { s.cr with raw := some v }, host := rest }) ∧
    (∀ v, s.host = .write (.parity v) :: rest →
      step s = .next { s with cr := { s.cr with parity := v }, host := rest }) ∧
    (∀ v, s.host = .write (.frameBits v) :: rest →
      step s = .next { s with cr := { s.cr with frameBits := some v }, host := rest }) ∧
    (∀ v, s.host = .write (.pulseUs v) :: rest →
      step s = .next { s with cr := { s.cr with pulseUs := v }, host := rest }) ∧
    (∀ v, s.host = .write (.spaceUs v) :: rest →
      step s = .next { s with cr := { s.cr with spaceUs := v }, host := rest }) ∧
    (s.host = .command 1 :: rest →
      step s = .next { s with phase := .encoding, seq := .stage .cfgchk, host := rest }) ∧
    (s.host = .command 0 :: rest → step s = .next { s with host := rest }) ∧
    (s.host = .reset :: rest →
      step s = .next { State.reset with host := rest, answers := s.answers, draws := s.draws }) ∧
    (s.host = [] → step s = .next s)

/-- 60 R236, 40 R125, 10 R31: DONE is final until reset; a write or a second start has no step. -/
def Obligations.DoneIsFinalUntilReset : Prop :=
  ∀ (s : State) (rest : List HostCommand), s.phase = .done →
    (s.host = [] → step s = .next s) ∧
    (s.host = .command 0 :: rest → step s = .next { s with host := rest }) ∧
    (s.host = .command 1 :: rest → step s = .refused .startOutsideReady) ∧
    (∀ w, s.host = .write w :: rest → step s = .refused .hostWriteOutsideReady) ∧
    (s.host = .reset :: rest →
      step s = .next { State.reset with host := rest, answers := s.answers, draws := s.draws })

/-- 10 R31, 40 R124: from START to the end of the run no step changes a configuration register. The second clause, that no
host command is taken in a run, is the MODEL'S choice and no rule of the spec: the host's queue is read only in READY and
DONE (log 3, DESIGN CHOICE), where 93 U11 assumes a host that does nothing during a run. -/
def Obligations.ConfigurationFrozenInRun : Prop :=
  ∀ s t : State, s.phase = .encoding ∨ s.phase = .transmitting → step s = .next t →
    t.cr = s.cr ∧ t.host = s.host

/-- 10 R37: the phases follow one another in the order READY, ENCODING, TRANSMITTING, DONE; a run may end from ENCODING,
and only a reset leaves DONE. -/
def Obligations.PhasesFollowInOrder : Prop :=
  ∀ s t : State, step s = .next t → t.phase ≠ s.phase →
    (s.phase = .ready ∧ t.phase = .encoding) ∨ (s.phase = .encoding ∧ t.phase = .transmitting) ∨
    (s.phase = .encoding ∧ t.phase = .done) ∨ (s.phase = .transmitting ∧ t.phase = .done) ∨
    (s.phase = .done ∧ t.phase = .ready ∧ s.host.head? = some .reset)

/-! ### FatalError -/

/-- 60 R230, R231: what `raise Fatal` writes, and that it writes nothing else of the spec's state. -/
def Obligations.FatalErrorEntry : Prop :=
  ∀ (s : State) (c : Cause), ∃ line : List Byte, (0x0A : Byte) ∉ line ∧
    s.raiseFatal c =
      { s with cause := some c, diag := [line], exit := some 2, phase := .done, draws := s.draws + 1 }

/-- 40 R123, 60 R230, R233: a step of a run that ends it is the end of RUN, with status 0 and no line, or a FatalError,
with status 2, one line and a cause, that leaves the configuration, the buffers, the counters, TXS and the sequencer as
they were. -/
def Obligations.RunEndsBySuccessOrFatalError : Prop :=
  ∀ s t : State, s.phase = .encoding ∨ s.phase = .transmitting → step s = .next t → t.phase = .done →
    (s.seq = .finish ∧ t = { s with exit := some 0, diag := [], phase := .done }) ∨
    (t.exit = some 2 ∧ t.diag.length = 1 ∧ t.cause.isSome ∧ t.cr = s.cr ∧ t.data = s.data ∧ t.frame = s.frame ∧
      t.mode = s.mode ∧ t.fb = s.fb ∧ t.cb = s.cb ∧ t.k = s.k ∧ t.hexmode = s.hexmode ∧ t.i = s.i ∧
      t.txs = s.txs ∧ t.stepIx = s.stepIx ∧ t.timer = s.timer ∧ t.seq = s.seq)

/-! ### ConfigValidator -/

/-- 41 R131, whole: absent is not 0, and exactly an absent offset is refused so. -/
def Obligations.LinePresenceIsChecked : Prop :=
  ∀ s : State,
    (exec .cfgchk s = .next (s.raiseFatal .lineMissing) ↔ s.cr.d0 = none ∨ s.cr.d1 = none)

/-- 41 R130 to R134: the four checks in the spec's order (92 D11), and nothing written where all pass. -/
def Obligations.ConfigurationChecks : Prop :=
  ∀ s : State,
    (s.cr.d0 = none ∨ s.cr.d1 = none → exec .cfgchk s = .next (s.raiseFatal .lineMissing)) ∧
    ∀ z o, s.cr.d0 = some z → s.cr.d1 = some o →
      (z = o → exec .cfgchk s = .next (s.raiseFatal .lineSame)) ∧
      (z ≠ o →
        (s.cr.pulseUs < 20 ∨ 5000 < s.cr.pulseUs → exec .cfgchk s = .next (s.raiseFatal .pulseRange)) ∧
        (20 ≤ s.cr.pulseUs → s.cr.pulseUs ≤ 5000 →
          (s.cr.spaceUs < s.cr.pulseUs → exec .cfgchk s = .next (s.raiseFatal .spaceLtPulse)) ∧
          (s.cr.pulseUs ≤ s.cr.spaceUs → exec .cfgchk s = .next { s with seq := .stage .build })))

/-! ### Frame builder, raw mode -/

/-- 42 R140, R141, R151: BUILD empties DATA and selects the mode by the presence of RAW alone, and the mode decodes to
BUILD.RAW or BUILD.FIELD. That these two only go to the prefix and to FIELD.RESOLVE, their own step writing nothing of
the spec's state, rests on the MODEL'S grain of a step (log 1, DESIGN CHOICE). -/
def Obligations.BuildSelectsMode : Prop :=
  decode (.stage3 1) = .ok .build ∧ decode (.mode1 1) = .ok .buildRaw ∧ decode (.mode1 0) = .ok .buildField ∧
  ∀ s : State,
    exec .build s =
      .next { s with data := [], mode := if s.cr.raw.isSome then .raw else .field, seq := .mode } ∧
    (s.phase = .encoding → s.seq = .mode →
      (s.cr.raw.isSome → step s = exec .buildRaw s) ∧ (s.cr.raw = none → step s = exec .buildField s)) ∧
    exec .buildRaw s = .next { s with seq := .litPrefix } ∧
    exec .buildField s = .next { s with seq := .fstep .resolve }

/-- 42 R142, 30 R92: what the two prefix operations set, and that the prefix is hex exactly when the literal begins with
`0x` or `0X`; fewer than two characters are binary. -/
def Obligations.HexPrefixIsRecognised : Prop :=
  ∀ s : State,
    (∀ upper, exec (.rawPrefixHex upper) s = .next { s with hexmode := true, k := 2, seq := .literal }) ∧
    (∀ chars, exec (.rawPrefixBin chars) s = .next { s with hexmode := false, k := 0, seq := .literal }) ∧
    (s.phase = .encoding → s.seq = .litPrefix →
      ((∃ rest, s.rawChars = 0x30 :: 0x78 :: rest ∨ s.rawChars = 0x30 :: 0x58 :: rest) →
        step s = .next { s with hexmode := true, k := 2, seq := .literal }) ∧
      ((¬ ∃ rest, s.rawChars = 0x30 :: 0x78 :: rest ∨ s.rawChars = 0x30 :: 0x58 :: rest) →
        step s = .next { s with hexmode := false, k := 0, seq := .literal }))

/-- 42 R143, R144: the codes of the two binary digits; a digit appends its bit while DLEN < 512, and at 512 it raises
E_CAPACITY and appends nothing. -/
def Obligations.BinaryDigitsAppendOneBit : Prop :=
  decode (.litchar9 0x030) = .ok .bin0 ∧ decode (.litchar9 0x031) = .ok .bin1 ∧
  ∀ s : State,
    (s.data.length < 512 →
      exec .bin0 s = .next { s with data := s.data ++ [false], k := s.k + 1, seq := .literal } ∧
      exec .bin1 s = .next { s with data := s.data ++ [true], k := s.k + 1, seq := .literal }) ∧
    (512 ≤ s.data.length →
      exec .bin0 s = .next (s.raiseFatal .capacity) ∧ exec .bin1 s = .next (s.raiseFatal .capacity))

/-- 42 R145, R146: a separator changes neither DATA nor DLEN, raises nothing at any DLEN, and the scan goes on. -/
def Obligations.SeparatorsAreSkipped : Prop :=
  decode (.litchar9 0x020) = .ok .binSp ∧ decode (.litchar9 0x05F) = .ok .binUs ∧
  ∀ s : State,
    exec .binSp s = .next { s with k := s.k + 1, seq := .literal } ∧
    exec .binUs s = .next { s with k := s.k + 1, seq := .literal }

/-- 42 R147, R150, 30 R93, R94: in binary mode every character but four, and in hex mode every character but the 22
digits, is a fatal parse error at the cursor. Lower-case digits are digits under HEX_LOWER_OK (log 13). -/
def Obligations.IllegalCharactersEndTheRun : Prop :=
  ∀ (s : State) (ch : Byte),
    exec (.binIll ch) s = .next (s.raiseFatal .rawChar) ∧
    exec (.hexIll ch) s = .next (s.raiseFatal .rawChar) ∧
    (s.phase = .encoding → s.seq = .literal → s.rawChars[s.k]? = some ch →
      (s.hexmode = false → ch ∉ ([0x30, 0x31, 0x20, 0x5F] : List Byte) →
        step s = .next (s.raiseFatal .rawChar)) ∧
      (s.hexmode = true →
        ¬ (0x30 ≤ ch.toNat ∧ ch.toNat ≤ 0x39 ∨ 0x41 ≤ ch.toNat ∧ ch.toNat ≤ 0x46 ∨
            0x61 ≤ ch.toNat ∧ ch.toNat ≤ 0x66) →
        step s = .next (s.raiseFatal .rawChar)))

/-- 42 R148: the ten decimal digits of a hex literal, each with its code and its four bits, most significant first;
E_CAPACITY where they do not fit. -/
def Obligations.DecimalHexDigitsAppendFourBits : Prop :=
  ∀ s : State, ∀ p ∈ ([(0x130, .hex0, [false, false, false, false]), (0x131, .hex1, [false, false, false, true]),
      (0x132, .hex2, [false, false, true, false]), (0x133, .hex3, [false, false, true, true]),
      (0x134, .hex4, [false, true, false, false]), (0x135, .hex5, [false, true, false, true]),
      (0x136, .hex6, [false, true, true, false]), (0x137, .hex7, [false, true, true, true]),
      (0x138, .hex8, [true, false, false, false]), (0x139, .hex9, [true, false, false, true])] :
        List (BitVec 9 × Instr × BitSeq)),
    decode (.litchar9 p.1) = .ok p.2.1 ∧
    (s.data.length + 4 ≤ 512 →
      exec p.2.1 s = .next { s with data := s.data ++ p.2.2, k := s.k + 1, seq := .literal }) ∧
    (512 < s.data.length + 4 → exec p.2.1 s = .next (s.raiseFatal .capacity))

/-- 42 R149, 30 R95: the letter digits, upper case and (92 D12) lower case, each with its four bits; E_CAPACITY where
they do not fit. -/
def Obligations.LetterHexDigitsAppendFourBits : Prop :=
  ∀ s : State, ∀ p ∈ ([(.hexUA, [true, false, true, false]), (.hexUB, [true, false, true, true]),
      (.hexUC, [true, true, false, false]), (.hexUD, [true, true, false, true]),
      (.hexUE, [true, true, true, false]), (.hexUF, [true, true, true, true]),
      (.hexLA, [true, false, true, false]), (.hexLB, [true, false, true, true]),
      (.hexLC, [true, true, false, false]), (.hexLD, [true, true, false, true]),
      (.hexLE, [true, true, true, false]), (.hexLF, [true, true, true, true])] : List (Instr × BitSeq)),
    (s.data.length + 4 ≤ 512 →
      exec p.1 s = .next { s with data := s.data ++ p.2, k := s.k + 1, seq := .literal }) ∧
    (512 < s.data.length + 4 → exec p.1 s = .next (s.raiseFatal .capacity))

/-! ### Frame builder, field mode -/

/-- 42 R153: two overrides are taken and FORMAT is not read; otherwise FORMAT is decoded next. That FIELD.RESOLVE then
writes nothing itself and only hands over, the preset's operation setting FB and CB, is the MODEL'S grain of a step (log 1,
DESIGN CHOICE); R153 has FIELD.RESOLVE set them. -/
def Obligations.ResolveTakesOverridesOrFormat : Prop :=
  ∀ s : State,
    (∀ a b, s.cr.facilityBits = some a → s.cr.cardBits = some b →
      exec .fieldResolve s = .next { s with fb := a, cb := b, seq := .fstep .range }) ∧
    (s.cr.facilityBits = none ∨ s.cr.cardBits = none → exec .fieldResolve s = .next { s with seq := .format })

/-- 42 R152: the five presets, facility width first, and the operations that take them. The clause that a width with an
override keeps it, the other still taking the preset, is 42 R153's, which the spec marks as its own reading (92 D10;
log 23). -/
def Obligations.PresetsGiveWidths : Prop :=
  ∀ s : State, ∀ p ∈ ([(.fmt26, 26, 8, 16), (.fmt34, 34, 16, 16), (.fmt35, 35, 19, 16), (.fmt37, 37, 18, 16),
      (.fmt48, 48, 16, 30)] : List (Instr × BitVec 8 × Nat × Nat)),
    decode (.fmtid8 p.2.1) = .ok p.1 ∧ preset p.2.1 = some (p.2.2.1, p.2.2.2) ∧
    exec p.1 s = .next { s with
      fb := s.cr.facilityBits.getD p.2.2.1, cb := s.cr.cardBits.getD p.2.2.2, seq := .fstep .range }

/-- 42 R154, 30 R105: an unsupported FORMAT is fatal where a preset width is needed, and nothing otherwise; every
identifier but five is unsupported. -/
def Obligations.UnsupportedFormatIsFatalWhenNeeded : Prop :=
  ∀ (s : State) (id : BitVec 8),
    (s.cr.facilityBits = none ∨ s.cr.cardBits = none →
      exec (.fmtIll id) s = .next (s.raiseFatal .format)) ∧
    (s.cr.facilityBits ≠ none → s.cr.cardBits ≠ none →
      exec (.fmtIll id) s = .next { s with seq := .fstep .range }) ∧
    (id ∉ ([26, 34, 35, 37, 48] : List (BitVec 8)) → decode (.fmtid8 id) = .ok (.fmtIll id))

/-- 42 R155: FIELD.RANGE and its code: both values strictly below 2 to their widths pass; any other case is E_FIELD_RANGE.
For widths above 63 arithmetic is assumed exact (93 U6; log 11). -/
def Obligations.FieldValuesMustFitWidths : Prop :=
  decode (.fstep2 1) = .ok .fieldRange ∧
  ∀ s : State,
    (s.cr.facility < 2 ^ s.fb ∧ s.cr.card < 2 ^ s.cb →
      exec .fieldRange s = .next { s with seq := .fstep .compose }) ∧
    (2 ^ s.fb ≤ s.cr.facility ∨ 2 ^ s.cb ≤ s.cr.card →
      exec .fieldRange s = .next (s.raiseFatal .fieldRange))

/-- 42 R156: FB + CB bits, the facility's first, each field most significant bit first; E_CAPACITY above 512.
For widths above 63 arithmetic is assumed exact (93 U6; log 11). -/
def Obligations.CompositionIsMsbFirst : Prop :=
  ∀ s : State,
    (s.fb + s.cb ≤ 512 → ∃ d : BitSeq,
      exec .fieldCompose s = .next { s with data := d, seq := .fstep .pad } ∧ d.length = s.fb + s.cb ∧
      (∀ j, j < s.fb → d[j]? = some (decide (s.cr.facility / 2 ^ (s.fb - 1 - j) % 2 = 1))) ∧
      (∀ j, j < s.cb → d[s.fb + j]? = some (decide (s.cr.card / 2 ^ (s.cb - 1 - j) % 2 = 1)))) ∧
    (512 < s.fb + s.cb → exec .fieldCompose s = .next (s.raiseFatal .capacity))

/-- 42 R161(e): read back as binary numbers, the two fields of the composed DATA are FACILITY and CARD. For widths
above 63 arithmetic is assumed exact (93 U6; log 11). -/
def Obligations.ComposedFieldsReadBack : Prop :=
  ∀ s t : State, s.fb + s.cb ≤ 512 → s.cr.facility < 2 ^ s.fb → s.cr.card < 2 ^ s.cb →
    exec .fieldCompose s = .next t →
    (t.data.take s.fb).foldl (fun n b => 2 * n + b.toNat) 0 = s.cr.facility ∧
    (t.data.drop s.fb).foldl (fun n b => 2 * n + b.toNat) 0 = s.cr.card

/-- 42 R157: the left pad, only under PARITY = None (code 0) with FRAME_BITS present, and its two errors; under
EMPTY_DATA_OK (log 13). -/
def Obligations.PadExtendsDataOnTheLeft : Prop :=
  ∀ s : State,
    (s.cr.frameBits = none ∨ s.cr.parity ≠ 0 → exec .fieldPad s = .next { s with seq := .stage .par }) ∧
    ∀ e, s.cr.frameBits = some e → s.cr.parity = 0 →
      (e < s.data.length → exec .fieldPad s = .next (s.raiseFatal .padShort)) ∧
      (s.data.length ≤ e → 512 < e → exec .fieldPad s = .next (s.raiseFatal .padCap)) ∧
      (s.data.length ≤ e → e ≤ 512 →
        exec .fieldPad s =
          .next { s with data := List.replicate (e - s.data.length) false ++ s.data, seq := .stage .par })

/-! ### Parity encoder and gate -/

/-- 43 R170: FLEN <- 0, and the code of PARITY selects which of the four runs. -/
def Obligations.ParitySelectsOneEncoder : Prop :=
  ∀ s : State,
    exec .par s = .next { s with frame := [], seq := .parity } ∧
    (s.phase = .encoding → s.seq = .parity →
      (s.cr.parity = 0 → step s = exec .parNone s) ∧ (s.cr.parity = 1 → step s = exec .parWeven s) ∧
      (s.cr.parity = 2 → step s = exec .parWodd s) ∧ (s.cr.parity = 3 → step s = exec .parStd s))

/-- 43 R171: PAR.NONE and its code: the identity. -/
def Obligations.ParityNoneIsIdentity : Prop :=
  decode (.parsel2 0) = .ok .parNone ∧
  ∀ s : State, s.data.length ≤ 520 →
    exec .parNone s = .next { s with frame := s.data, seq := .stage .fval }

/-- 43 R172, R173: one bit after all data bits. WholeEven: 1 if the count of ones is even else 0, so the frame's count of
ones is odd; WholeOdd: 0 if the count of ones is even else 1, so the frame's count of ones is even. -/
def Obligations.WholeParityAppendsOneBit : Prop :=
  ∀ s : State, s.data.length + 1 ≤ 520 → ∃ e o : BitSeq,
    exec .parWeven s = .next { s with frame := e, seq := .stage .fval } ∧
    e = s.data ++ [decide (s.data.count true % 2 = 0)] ∧ e.length = s.data.length + 1 ∧ e.count true % 2 = 1 ∧
    exec .parWodd s = .next { s with frame := o, seq := .stage .fval } ∧
    o = s.data ++ [decide (s.data.count true % 2 = 1)] ∧ o.length = s.data.length + 1 ∧ o.count true % 2 = 0

/-- 43 R174: one bit before and one after the data; with the leading bit the left half has an odd count of ones, with the
trailing bit the right half an even one. -/
def Obligations.StandardParityOverHalves : Prop :=
  ∀ s : State, s.data.length + 2 ≤ 520 → ∃ pl pr : Bit,
    exec .parStd s = .next { s with frame := [pl] ++ s.data ++ [pr], seq := .stage .fval } ∧
    ([pl] ++ s.data ++ [pr]).length = s.data.length + 2 ∧
    (pl = true ↔ (s.data.take (s.data.length / 2)).count true % 2 = 0) ∧
    (pr = false ↔ (s.data.drop (s.data.length / 2)).count true % 2 = 0) ∧
    ([pl] ++ s.data.take (s.data.length / 2)).count true % 2 = 1 ∧
    (s.data.drop (s.data.length / 2) ++ [pr]).count true % 2 = 0

/-- 43 R176(e): under one mode, equal frames come from equal data. -/
def Obligations.ParityEncoderIsInjective : Prop :=
  ∀ s s' t t' : State, s.phase = .encoding → s'.phase = .encoding → s.seq = .parity → s'.seq = .parity →
    s.cr.parity = s'.cr.parity → s.data.length ≤ 512 → s'.data.length ≤ 512 →
    step s = .next t → step s' = .next t' → t.frame = t'.frame → s.data = s'.data

/-- 43 R175: a frame that would be longer than 520 is E_CAPACITY and is not written. -/
def Obligations.FrameOverflowIsFatal : Prop :=
  ∀ s : State,
    (520 < s.data.length → exec .parNone s = .next (s.raiseFatal .capacity)) ∧
    (520 < s.data.length + 1 → exec .parWeven s = .next (s.raiseFatal .capacity) ∧
      exec .parWodd s = .next (s.raiseFatal .capacity)) ∧
    (520 < s.data.length + 2 → exec .parStd s = .next (s.raiseFatal .capacity))

/-- 44 R180: a present expectation equals FLEN or the run ends; otherwise the gate writes nothing. -/
def Obligations.GateComparesFrameLength : Prop :=
  ∀ s : State,
    (s.cr.frameBits = none ∨ s.cr.frameBits = some s.frame.length →
      exec .fval s = .next { s with seq := .stage .tx }) ∧
    (∀ e, s.cr.frameBits = some e → e ≠ s.frame.length → exec .fval s = .next (s.raiseFatal .frameLen))

/-! ### Transmitter -/

/-- 45 R187 to R190, R195, R197: what TX, TX.INIT, TX.SETTLE, TX.END and TX.REL do themselves: they begin, emit their line
operation or load TIMER (log 1, log 19). -/
def Obligations.TransmitterStepsBegin : Prop :=
  ∀ s : State,
    exec .tx s = .next { s with phase := .transmitting, stepIx := 0, seq := .txstep .req } ∧
    exec .txInit s = .next { s with seq := .lineop (.lsetb .high .high) } ∧
    exec .txSettle s = .next { s with timer := 2000, seq := .hold .settle } ∧
    exec .txEnd s = .next { s with seq := .lineop (.lsetb .high .high) } ∧
    exec .txRel s = .next { s with seq := .lineop .lrel }

/-- 45 R188: TX.REQ sets TXS to Idle and emits LREQ with CHIP, D0 and D1; without an offset there is no line to name
(log 15). -/
def Obligations.RequestNamesTheLines : Prop :=
  ∀ s : State,
    (∀ z o, s.cr.d0 = some z → s.cr.d1 = some o →
      exec .txReq s = .next { s with txs := .idle, seq := .lineop (.lreq s.cr.chip z o) }) ∧
    (s.cr.d0 = none ∨ s.cr.d1 = none → exec .txReq s = .fault .lineUnnamed)

/-- 30 R100, 45 R191, R192: the frame bit at I selects PULSE0 or PULSE1, TXS becomes Pulsing(I), and the selected line is
to be set low. -/
def Obligations.FrameBitSelectsPulse : Prop :=
  ∀ s : State,
    exec .pulse0 s = .next { s with txs := .pulsing s.i, seq := .lineop (.lset1 .zero .low) } ∧
    exec .pulse1 s = .next { s with txs := .pulsing s.i, seq := .lineop (.lset1 .one .low) } ∧
    (s.phase = .transmitting → s.seq = .txstep .pulse →
      (s.frame[s.i]? = some false → step s = exec .pulse0 s) ∧
      (s.frame[s.i]? = some true → step s = exec .pulse1 s))

/-- 20 R68: LREQ answered ok owns both lines, high; answered fail it owns nothing, changes no level and ends the run by
E_LINE_REQUEST. -/
def Obligations.RequestGrantsOrFails : Prop :=
  ∀ (s : State) (chip : List Byte) (z o : Nat),
    (s.answer = .ok →
      exec (.lreq chip z o) s = .next { s with
        owned := true, lvl0 := .high, lvl1 := .high, stepIx := s.stepIx + 1, seq := .txstep .init,
        answers := s.answers.tail, draws := s.draws + 1 }) ∧
    (s.answer = .fail → ∃ line,
      exec (.lreq chip z o) s = .next { s with
        owned := false, cause := some .lineRequest, diag := [line], exit := some 2, phase := .done,
        answers := s.answers.tail, draws := s.draws + 2 })

/-- 20 R69, R72, 45 R193: LSET1 answered ok drives its line alone and the hold of PULSE_US or SPACE_US begins; answered
fail its line is at the old or the new level, the other unchanged, OWNED unspecified, and the run ends by E_LINE_SET. It
is defined only while OWNED = 1, and the model stops on it otherwise (log 15). -/
def Obligations.SetOneLineDrivesOnlyIt : Prop :=
  ∀ (s : State) (a : Line) (v : Level),
    (s.owned = false → exec (.lset1 a v) s = .fault .lineNotOwned) ∧
    (s.owned = true → s.answer = .ok →
      exec (.lset1 a v) s = .next { s with
        lvl0 := if a = .zero then v else s.lvl0, lvl1 := if a = .one then v else s.lvl1,
        stepIx := s.stepIx + 1, timer := if v = .low then s.cr.pulseUs else s.cr.spaceUs,
        seq := .hold (if v = .low then .pulse a else .space),
        answers := s.answers.tail, draws := s.draws + 1 }) ∧
    (s.owned = true → s.answer = .fail → ∃ vz vo own line,
      (vz = s.lvl0 ∨ a = .zero ∧ vz = v) ∧ (vo = s.lvl1 ∨ a = .one ∧ vo = v) ∧
      exec (.lset1 a v) s = .next { s with
        lvl0 := vz, lvl1 := vo, owned := own, cause := some .lineSet, diag := [line], exit := some 2,
        phase := .done, answers := s.answers.tail, draws := s.draws + 2 })

/-- 20 R70, R72, 45 R189, R195: LSETB answered ok drives both lines at once, and the settle hold or the release follows by
STEP; answered fail each line is, independently, at its old or new level, and the run ends by E_LINE_SET. It is defined
only while OWNED = 1, and the model stops on it otherwise (log 15). -/
def Obligations.SetBothLinesIsAtomic : Prop :=
  ∀ (s : State) (vz vo : Level),
    (s.owned = false → exec (.lsetb vz vo) s = .fault .lineNotOwned) ∧
    (s.owned = true → s.answer = .ok →
      exec (.lsetb vz vo) s = .next { s with
        lvl0 := vz, lvl1 := vo, stepIx := s.stepIx + 1,
        seq := .txstep (if s.stepIx = 1 then .settle else .rel),
        answers := s.answers.tail, draws := s.draws + 1 }) ∧
    (s.owned = true → s.answer = .fail → ∃ wz wo own line,
      (wz = s.lvl0 ∨ wz = vz) ∧ (wo = s.lvl1 ∨ wo = vo) ∧
      exec (.lsetb vz vo) s = .next { s with
        lvl0 := wz, lvl1 := wo, owned := own, cause := some .lineSet, diag := [line], exit := some 2,
        phase := .done, answers := s.answers.tail, draws := s.draws + 2 })

/-- 20 R71, R72, 45 R196: LREL answered ok gives up both lines and TXS is Settled; answered fail ownership is unspecified,
the levels stay, and the run ends by E_LINE_RELEASE. -/
def Obligations.ReleaseGivesUpOwnership : Prop :=
  ∀ s : State,
    (s.answer = .ok →
      exec .lrel s = .next { s with
        owned := false, txs := .settled, stepIx := s.stepIx + 1, seq := .finish,
        answers := s.answers.tail, draws := s.draws + 1 }) ∧
    (s.answer = .fail → ∃ own line,
      exec .lrel s = .next { s with
        owned := own, cause := some .lineRelease, diag := [line], exit := some 2, phase := .done,
        answers := s.answers.tail, draws := s.draws + 2 })

/-- 45 R199: in a hold n microseconds change TIMER and nothing else, for every n up to its value; with TIMER = 0 the hold
is over and its entry of txops is done. -/
def Obligations.HoldChangesOnlyTimer : Prop :=
  ∀ (s : State) (h : HoldKind), s.phase = .transmitting → s.seq = .hold h →
    (∀ n, n ≤ s.timer → core.run n s = .next { s with timer := s.timer - n }) ∧
    (s.timer = 0 → step s = .next (s.holdDone h) ∧ (s.holdDone h).stepIx = s.stepIx + 1)

/-- 45 R193, R191, R192: one frame bit, both its line operations answered ok: the selected line goes low for PULSE_US and
high for SPACE_US, in PULSE_US + SPACE_US + 5 steps, of which that many are microseconds; I and STEP go on, and the line
interface shows exactly the four entries of the bit. -/
def Obligations.PulseTakesLowThenSpacing : Prop :=
  ∀ (s : State) (b : Bit) (rest : List Answer), s.phase = .transmitting → s.seq = .txstep .pulse →
    s.frame[s.i]? = some b → s.owned = true → s.lvl0 = .high → s.lvl1 = .high →
    s.answers = .ok :: .ok :: rest →
    core.run (s.cr.pulseUs + s.cr.spaceUs + 5) s = .next { s with
      txs := .pulsing s.i, i := s.i + 1, stepIx := s.stepIx + 4, timer := 0, answers := rest,
      draws := s.draws + 2 } ∧
    events (s.cr.pulseUs + s.cr.spaceUs + 5) s =
      [.op (.lset1 (if b then .one else .zero) .low)] ++ List.replicate s.cr.pulseUs .tick ++
      [.op (.lset1 (if b then .one else .zero) .high)] ++ List.replicate s.cr.spaceUs .tick

/-- 45 R187, R203, R205: txops has 4 L + 5 entries, and its holds sum to 2000 + L (p + s). -/
def Obligations.TxopsLengthAndDuration : Prop :=
  ∀ (chip : List Byte) (z o : Nat) (f : BitSeq) (p s : Nat),
    (txops chip z o f p s).length = 4 * f.length + 5 ∧
    (((txops chip z o f p s).flatMap TxEntry.shown).count .tick) = 2000 + f.length * (p + s) ∧
    (((txops chip z o f p s).flatMap TxEntry.shown).filter (· ≠ .tick)).length = 2 * f.length + 4

/-- 45 R202(a), (b): the falling edges of a complete transmission, by line, are the frame in index order. -/
def Obligations.FallingEdgesSpellTheFrame : Prop :=
  ∀ (chip : List Byte) (z o : Nat) (f : BitSeq) (p s : Nat),
    fallingEdges ((txops chip z o f p s).flatMap TxEntry.shown) = f.map (fun b => if b then .one else .zero)

/-! ### The invariant of the block -/

/-- The reset state meets the invariant. -/
def Obligations.ResetMeetsInvariant : Prop := State.reset.inv

/-- Every step keeps the invariant: EXIT, DIAG and CAUSE agree with PHASE (10 R42 to R44), DLEN ≤ 512, FLEN ≤ 514,
K ≤ RAW_LEN, I ≤ FLEN (10 R32 to R36), no line operation before the gate (40 R122), and OWNED, the levels, TXS, I, STEP
and TIMER are what txops up to STEP leaves (45 R187, R194). -/
def Obligations.StepKeepsInvariant : Prop :=
  ∀ s t : State, s.inv → step s = .next t → t.inv

/-- 60 R223: from a state of the invariant no step faults, and a step is refused only in DONE, for a host that writes or
starts without a reset (10 R31, 30 R103). That no step of ENCODING is refused rests on the switch EMPTY_DATA_OK = true
(42 R160; log 13, DESIGN CHOICE): with the other value empty data is refused at the end of BUILD. -/
def Obligations.OnlyTheHostIsRefused : Prop :=
  ∀ s : State, s.inv →
    (∀ f, step s ≠ .fault f) ∧
    (∀ r, step s = .refused r → s.phase = .done ∧ (r = .hostWriteOutsideReady ∨ r = .startOutsideReady))

/-- 40 R122: while PHASE = ENCODING no line operation is issued and no hold runs, nothing is owned, and no step changes
ownership or a level. -/
def Obligations.NoLineOperationBeforeTheGate : Prop :=
  ∀ s t : State, s.inv → s.phase = .encoding → step s = .next t →
    s.event = none ∧ t.owned = false ∧ t.lvl0 = s.lvl0 ∧ t.lvl1 = s.lvl1

/-- 45 R194: while the lines are owned in the transmission at most one line is low, and a low line is the one that the
current frame bit selects, in its low time or at its rising set. -/
def Obligations.AtMostOneLineLow : Prop :=
  ∀ s : State, s.inv → s.phase = .transmitting → s.owned = true →
    ¬ (s.lvl0 = .low ∧ s.lvl1 = .low) ∧
    ∀ a, s.level a = .low →
      s.frame[s.i]? = some (decide (a = .one)) ∧ (s.seq = .hold (.pulse a) ∨ s.seq = .lineop (.lset1 a .high))

/-- 45 R187: the line operation that is issued, and the hold that runs, is entry STEP of txops. -/
def Obligations.TransmitterStandsAtEntryStep : Prop :=
  ∀ (s : State) (z o : Nat), s.inv → s.phase = .transmitting → s.cr.d0 = some z → s.cr.d1 = some o →
    (∀ op, s.seq = .lineop op →
      (txops s.cr.chip z o s.frame s.cr.pulseUs s.cr.spaceUs)[s.stepIx]? = some (.op op)) ∧
    (∀ h, s.seq = .hold h →
      (txops s.cr.chip z o s.frame s.cr.pulseUs s.cr.spaceUs)[s.stepIx]? = some (.hold (s.holdUs h)))

/-- 20 R84, 10 R48: nothing changes DATA or FRAME during the transmission. -/
def Obligations.BuffersFrozenInTransmission : Prop :=
  ∀ s t : State, s.inv → s.phase = .transmitting → step s = .next t → t.data = s.data ∧ t.frame = s.frame

/-! ### Whole runs -/

/-- 40 R121, 41 to 44, 60 R237: from CFGCHK the block comes, with nothing shown on the lines and within RAW_LEN + 12
steps, to the transmitter with the frame that the configuration yields, or to DONE with status 2 for the first cause in
the spec's order. CAUSE is the spec's own label (92 D7). With empty data, that the run goes on rests on the switch
EMPTY_DATA_OK = true (42 R160, 92 D13, 93 U6; log 13, DESIGN CHOICE), and the digits of a hex literal are those of
HEX_LOWER_OK = true (log 13). For widths above 63 arithmetic is assumed exact (93 U6; log 11). A run that ends in DONE is a complete run: it assumes that the host neither resets nor writes
between START and DONE (93 U11; log 3). -/
def Obligations.EncodingComputesTheFrame : Prop :=
  ∀ s : State, s.phase = .encoding → s.seq = .stage .cfgchk → ∃ n t, n ≤ s.rawChars.length + 12 ∧
    core.run n s = .next t ∧ events n s = [] ∧ t.cr = s.cr ∧ t.owned = s.owned ∧ t.lvl0 = s.lvl0 ∧
    t.lvl1 = s.lvl1 ∧
    match s.cr.frameOf with
    | .ok f => t.phase = .encoding ∧ t.seq = .stage .tx ∧ t.frame = f
    | .error c => t.phase = .done ∧ t.exit = some 2 ∧ t.cause = some c ∧ t.diag.length = 1

/-- 45 R187, R196, R202, R203, 40 R121: with every line operation answered ok the transmission performs exactly txops and
ends in DONE with status 0, TXS Settled, I = L, STEP = 4 L + 5, nothing owned and both lines last driven high. It assumes
that every hold ends (93 U4; log 14) and that the host neither resets nor writes in the run (93 U11; log 3). -/
def Obligations.TransmissionPerformsTxops : Prop :=
  ∀ (s : State) (z o : Nat) (rest : List Answer), s.phase = .encoding → s.seq = .stage .tx →
    s.cr.d0 = some z → s.cr.d1 = some o →
    s.answers = List.replicate (2 * s.frame.length + 4) .ok ++ rest →
    core.run (2013 + s.frame.length * (s.cr.pulseUs + s.cr.spaceUs + 5)) s = .next { s with
      phase := .done, txs := .settled, i := s.frame.length, stepIx := 4 * s.frame.length + 5, timer := 0,
      owned := false, lvl0 := .high, lvl1 := .high, exit := some 0, diag := [], seq := .finish,
      answers := rest, draws := s.draws + (2 * s.frame.length + 4) } ∧
    events (2013 + s.frame.length * (s.cr.pulseUs + s.cr.spaceUs + 5)) s =
      (txops s.cr.chip z o s.frame s.cr.pulseUs s.cr.spaceUs).flatMap TxEntry.shown

/-- 45 R187, R198: whatever the controller answers, and however far the run gets, what it shows is a beginning of txops:
the answers decide only how far along the list it is. The host gives no further command. -/
def Obligations.EventsAreABeginningOfTxops : Prop :=
  ∀ (s : State) (z o n : Nat), s.phase = .encoding → s.seq = .stage .tx → s.host = [] →
    s.cr.d0 = some z → s.cr.d1 = some o →
    events n s <+: (txops s.cr.chip z o s.frame s.cr.pulseUs s.cr.spaceUs).flatMap TxEntry.shown

/-- 40 R123, with its proviso that every line operation is answered and every hold elapses: from every state of the
invariant a run under way comes to DONE with status 0 or 2, whatever the controller answers. It ASSUMES, and this model
builds in: every hold ends (93 U4; a tick of TIMER is a step, log 14); every line operation is answered (20 R67; log 4);
the host neither resets nor writes between START and DONE (93 U11; log 3); the switches are at the spec's defaults, so
that empty data goes on (log 13). -/
def Obligations.EveryRunEnds : Prop :=
  ∀ s : State, s.inv → s.phase = .encoding ∨ s.phase = .transmitting →
    ∃ n t, core.run n s = .next t ∧ t.phase = .done ∧ (t.exit = some 0 ∨ t.exit = some 2)

/-- 42 R159: in raw mode FORMAT, FACILITY_BITS, CARD_BITS, FACILITY and CARD are not read: two runs that differ only in
them are, step by step, the same but for them. -/
def Obligations.RawRunIgnoresFieldRegisters : Prop :=
  ∀ (s : State) (fmt : BitVec 8) (fb cb : Option Nat) (fac card n : Nat),
    s.phase = .encoding → s.seq = .stage .cfgchk → s.cr.raw.isSome → s.host = [] →
    core.run n { s with cr := { s.cr with
        format := fmt, facilityBits := fb, cardBits := cb, facility := fac, card := card } } =
      match core.run n s with
      | .next t => .next { t with cr := { t.cr with
          format := fmt, facilityBits := fb, cardBits := cb, facility := fac, card := card } }
      | .fault f => .fault f
      | .refused r => .refused r
end

