-- ==== Sys2Proof/Laws/State.lean ====
section
/-! SUPPORT. What each update of the state leaves in each field: one lemma per field, so that no proof unfolds an
update. -/

namespace Sys2Proof.Machine

variable (s : State)

/-! ### goto -/

@[simp] theorem State.goto_cr (q : Seq) : (s.goto q).cr = s.cr := rfl
@[simp] theorem State.goto_data (q : Seq) : (s.goto q).data = s.data := rfl
@[simp] theorem State.goto_frame (q : Seq) : (s.goto q).frame = s.frame := rfl
@[simp] theorem State.goto_mode (q : Seq) : (s.goto q).mode = s.mode := rfl
@[simp] theorem State.goto_fb (q : Seq) : (s.goto q).fb = s.fb := rfl
@[simp] theorem State.goto_cb (q : Seq) : (s.goto q).cb = s.cb := rfl
@[simp] theorem State.goto_k (q : Seq) : (s.goto q).k = s.k := rfl
@[simp] theorem State.goto_hexmode (q : Seq) : (s.goto q).hexmode = s.hexmode := rfl
@[simp] theorem State.goto_i (q : Seq) : (s.goto q).i = s.i := rfl
@[simp] theorem State.goto_phase (q : Seq) : (s.goto q).phase = s.phase := rfl
@[simp] theorem State.goto_txs (q : Seq) : (s.goto q).txs = s.txs := rfl
@[simp] theorem State.goto_stepIx (q : Seq) : (s.goto q).stepIx = s.stepIx := rfl
@[simp] theorem State.goto_timer (q : Seq) : (s.goto q).timer = s.timer := rfl
@[simp] theorem State.goto_owned (q : Seq) : (s.goto q).owned = s.owned := rfl
@[simp] theorem State.goto_lvl0 (q : Seq) : (s.goto q).lvl0 = s.lvl0 := rfl
@[simp] theorem State.goto_lvl1 (q : Seq) : (s.goto q).lvl1 = s.lvl1 := rfl
@[simp] theorem State.goto_exit (q : Seq) : (s.goto q).exit = s.exit := rfl
@[simp] theorem State.goto_diag (q : Seq) : (s.goto q).diag = s.diag := rfl
@[simp] theorem State.goto_cause (q : Seq) : (s.goto q).cause = s.cause := rfl
@[simp] theorem State.goto_seq (q : Seq) : (s.goto q).seq = q := rfl
@[simp] theorem State.goto_host (q : Seq) : (s.goto q).host = s.host := rfl
@[simp] theorem State.goto_answers (q : Seq) : (s.goto q).answers = s.answers := rfl
@[simp] theorem State.goto_draws (q : Seq) : (s.goto q).draws = s.draws := rfl

/-! ### nextChar -/

@[simp] theorem State.nextChar_cr : (s.nextChar).cr = s.cr := rfl
@[simp] theorem State.nextChar_data : (s.nextChar).data = s.data := rfl
@[simp] theorem State.nextChar_frame : (s.nextChar).frame = s.frame := rfl
@[simp] theorem State.nextChar_mode : (s.nextChar).mode = s.mode := rfl
@[simp] theorem State.nextChar_fb : (s.nextChar).fb = s.fb := rfl
@[simp] theorem State.nextChar_cb : (s.nextChar).cb = s.cb := rfl
@[simp] theorem State.nextChar_k : (s.nextChar).k = s.k + 1 := rfl
@[simp] theorem State.nextChar_hexmode : (s.nextChar).hexmode = s.hexmode := rfl
@[simp] theorem State.nextChar_i : (s.nextChar).i = s.i := rfl
@[simp] theorem State.nextChar_phase : (s.nextChar).phase = s.phase := rfl
@[simp] theorem State.nextChar_txs : (s.nextChar).txs = s.txs := rfl
@[simp] theorem State.nextChar_stepIx : (s.nextChar).stepIx = s.stepIx := rfl
@[simp] theorem State.nextChar_timer : (s.nextChar).timer = s.timer := rfl
@[simp] theorem State.nextChar_owned : (s.nextChar).owned = s.owned := rfl
@[simp] theorem State.nextChar_lvl0 : (s.nextChar).lvl0 = s.lvl0 := rfl
@[simp] theorem State.nextChar_lvl1 : (s.nextChar).lvl1 = s.lvl1 := rfl
@[simp] theorem State.nextChar_exit : (s.nextChar).exit = s.exit := rfl
@[simp] theorem State.nextChar_diag : (s.nextChar).diag = s.diag := rfl
@[simp] theorem State.nextChar_cause : (s.nextChar).cause = s.cause := rfl
@[simp] theorem State.nextChar_seq : (s.nextChar).seq = .literal := rfl
@[simp] theorem State.nextChar_host : (s.nextChar).host = s.host := rfl
@[simp] theorem State.nextChar_answers : (s.nextChar).answers = s.answers := rfl
@[simp] theorem State.nextChar_draws : (s.nextChar).draws = s.draws := rfl

/-! ### entryDone -/

@[simp] theorem State.entryDone_cr : (s.entryDone).cr = s.cr := rfl
@[simp] theorem State.entryDone_data : (s.entryDone).data = s.data := rfl
@[simp] theorem State.entryDone_frame : (s.entryDone).frame = s.frame := rfl
@[simp] theorem State.entryDone_mode : (s.entryDone).mode = s.mode := rfl
@[simp] theorem State.entryDone_fb : (s.entryDone).fb = s.fb := rfl
@[simp] theorem State.entryDone_cb : (s.entryDone).cb = s.cb := rfl
@[simp] theorem State.entryDone_k : (s.entryDone).k = s.k := rfl
@[simp] theorem State.entryDone_hexmode : (s.entryDone).hexmode = s.hexmode := rfl
@[simp] theorem State.entryDone_i : (s.entryDone).i = s.i := rfl
@[simp] theorem State.entryDone_phase : (s.entryDone).phase = s.phase := rfl
@[simp] theorem State.entryDone_txs : (s.entryDone).txs = s.txs := rfl
@[simp] theorem State.entryDone_stepIx : (s.entryDone).stepIx = s.stepIx + 1 := rfl
@[simp] theorem State.entryDone_timer : (s.entryDone).timer = s.timer := rfl
@[simp] theorem State.entryDone_owned : (s.entryDone).owned = s.owned := rfl
@[simp] theorem State.entryDone_lvl0 : (s.entryDone).lvl0 = s.lvl0 := rfl
@[simp] theorem State.entryDone_lvl1 : (s.entryDone).lvl1 = s.lvl1 := rfl
@[simp] theorem State.entryDone_exit : (s.entryDone).exit = s.exit := rfl
@[simp] theorem State.entryDone_diag : (s.entryDone).diag = s.diag := rfl
@[simp] theorem State.entryDone_cause : (s.entryDone).cause = s.cause := rfl
@[simp] theorem State.entryDone_seq : (s.entryDone).seq = s.seq := rfl
@[simp] theorem State.entryDone_host : (s.entryDone).host = s.host := rfl
@[simp] theorem State.entryDone_answers : (s.entryDone).answers = s.answers := rfl
@[simp] theorem State.entryDone_draws : (s.entryDone).draws = s.draws := rfl

/-! ### raiseFatal -/

@[simp] theorem State.raiseFatal_cr (c : Cause) : (s.raiseFatal c).cr = s.cr := rfl
@[simp] theorem State.raiseFatal_data (c : Cause) : (s.raiseFatal c).data = s.data := rfl
@[simp] theorem State.raiseFatal_frame (c : Cause) : (s.raiseFatal c).frame = s.frame := rfl
@[simp] theorem State.raiseFatal_mode (c : Cause) : (s.raiseFatal c).mode = s.mode := rfl
@[simp] theorem State.raiseFatal_fb (c : Cause) : (s.raiseFatal c).fb = s.fb := rfl
@[simp] theorem State.raiseFatal_cb (c : Cause) : (s.raiseFatal c).cb = s.cb := rfl
@[simp] theorem State.raiseFatal_k (c : Cause) : (s.raiseFatal c).k = s.k := rfl
@[simp] theorem State.raiseFatal_hexmode (c : Cause) : (s.raiseFatal c).hexmode = s.hexmode := rfl
@[simp] theorem State.raiseFatal_i (c : Cause) : (s.raiseFatal c).i = s.i := rfl
@[simp] theorem State.raiseFatal_phase (c : Cause) : (s.raiseFatal c).phase = .done := rfl
@[simp] theorem State.raiseFatal_txs (c : Cause) : (s.raiseFatal c).txs = s.txs := rfl
@[simp] theorem State.raiseFatal_stepIx (c : Cause) : (s.raiseFatal c).stepIx = s.stepIx := rfl
@[simp] theorem State.raiseFatal_timer (c : Cause) : (s.raiseFatal c).timer = s.timer := rfl
@[simp] theorem State.raiseFatal_owned (c : Cause) : (s.raiseFatal c).owned = s.owned := rfl
@[simp] theorem State.raiseFatal_lvl0 (c : Cause) : (s.raiseFatal c).lvl0 = s.lvl0 := rfl
@[simp] theorem State.raiseFatal_lvl1 (c : Cause) : (s.raiseFatal c).lvl1 = s.lvl1 := rfl
@[simp] theorem State.raiseFatal_exit (c : Cause) : (s.raiseFatal c).exit = some Config.exitFatal := rfl
@[simp] theorem State.raiseFatal_diag (c : Cause) : (s.raiseFatal c).diag = [diagLine s.draws] := rfl
@[simp] theorem State.raiseFatal_cause (c : Cause) : (s.raiseFatal c).cause = some c := rfl
@[simp] theorem State.raiseFatal_seq (c : Cause) : (s.raiseFatal c).seq = s.seq := rfl
@[simp] theorem State.raiseFatal_host (c : Cause) : (s.raiseFatal c).host = s.host := rfl
@[simp] theorem State.raiseFatal_answers (c : Cause) : (s.raiseFatal c).answers = s.answers := rfl
@[simp] theorem State.raiseFatal_draws (c : Cause) : (s.raiseFatal c).draws = s.draws + 1 := rfl

/-! ### answered -/

@[simp] theorem State.answered_cr : (s.answered).cr = s.cr := rfl
@[simp] theorem State.answered_data : (s.answered).data = s.data := rfl
@[simp] theorem State.answered_frame : (s.answered).frame = s.frame := rfl
@[simp] theorem State.answered_mode : (s.answered).mode = s.mode := rfl
@[simp] theorem State.answered_fb : (s.answered).fb = s.fb := rfl
@[simp] theorem State.answered_cb : (s.answered).cb = s.cb := rfl
@[simp] theorem State.answered_k : (s.answered).k = s.k := rfl
@[simp] theorem State.answered_hexmode : (s.answered).hexmode = s.hexmode := rfl
@[simp] theorem State.answered_i : (s.answered).i = s.i := rfl
@[simp] theorem State.answered_phase : (s.answered).phase = s.phase := rfl
@[simp] theorem State.answered_txs : (s.answered).txs = s.txs := rfl
@[simp] theorem State.answered_stepIx : (s.answered).stepIx = s.stepIx := rfl
@[simp] theorem State.answered_timer : (s.answered).timer = s.timer := rfl
@[simp] theorem State.answered_owned : (s.answered).owned = s.owned := rfl
@[simp] theorem State.answered_lvl0 : (s.answered).lvl0 = s.lvl0 := rfl
@[simp] theorem State.answered_lvl1 : (s.answered).lvl1 = s.lvl1 := rfl
@[simp] theorem State.answered_exit : (s.answered).exit = s.exit := rfl
@[simp] theorem State.answered_diag : (s.answered).diag = s.diag := rfl
@[simp] theorem State.answered_cause : (s.answered).cause = s.cause := rfl
@[simp] theorem State.answered_seq : (s.answered).seq = s.seq := rfl
@[simp] theorem State.answered_host : (s.answered).host = s.host := rfl
@[simp] theorem State.answered_answers : (s.answered).answers = s.answers.tail := rfl
@[simp] theorem State.answered_draws : (s.answered).draws = s.draws + 1 := rfl

/-! ### drive -/

@[simp] theorem State.drive_cr (a : Line) (v : Level) : (s.drive a v).cr = s.cr := by cases a <;> rfl
@[simp] theorem State.drive_data (a : Line) (v : Level) : (s.drive a v).data = s.data := by cases a <;> rfl
@[simp] theorem State.drive_frame (a : Line) (v : Level) : (s.drive a v).frame = s.frame := by cases a <;> rfl
@[simp] theorem State.drive_mode (a : Line) (v : Level) : (s.drive a v).mode = s.mode := by cases a <;> rfl
@[simp] theorem State.drive_fb (a : Line) (v : Level) : (s.drive a v).fb = s.fb := by cases a <;> rfl
@[simp] theorem State.drive_cb (a : Line) (v : Level) : (s.drive a v).cb = s.cb := by cases a <;> rfl
@[simp] theorem State.drive_k (a : Line) (v : Level) : (s.drive a v).k = s.k := by cases a <;> rfl
@[simp] theorem State.drive_hexmode (a : Line) (v : Level) : (s.drive a v).hexmode = s.hexmode := by cases a <;> rfl
@[simp] theorem State.drive_i (a : Line) (v : Level) : (s.drive a v).i = s.i := by cases a <;> rfl
@[simp] theorem State.drive_phase (a : Line) (v : Level) : (s.drive a v).phase = s.phase := by cases a <;> rfl
@[simp] theorem State.drive_txs (a : Line) (v : Level) : (s.drive a v).txs = s.txs := by cases a <;> rfl
@[simp] theorem State.drive_stepIx (a : Line) (v : Level) : (s.drive a v).stepIx = s.stepIx := by cases a <;> rfl
@[simp] theorem State.drive_timer (a : Line) (v : Level) : (s.drive a v).timer = s.timer := by cases a <;> rfl
@[simp] theorem State.drive_owned (a : Line) (v : Level) : (s.drive a v).owned = s.owned := by cases a <;> rfl
@[simp] theorem State.drive_exit (a : Line) (v : Level) : (s.drive a v).exit = s.exit := by cases a <;> rfl
@[simp] theorem State.drive_diag (a : Line) (v : Level) : (s.drive a v).diag = s.diag := by cases a <;> rfl
@[simp] theorem State.drive_cause (a : Line) (v : Level) : (s.drive a v).cause = s.cause := by cases a <;> rfl
@[simp] theorem State.drive_seq (a : Line) (v : Level) : (s.drive a v).seq = s.seq := by cases a <;> rfl
@[simp] theorem State.drive_host (a : Line) (v : Level) : (s.drive a v).host = s.host := by cases a <;> rfl
@[simp] theorem State.drive_answers (a : Line) (v : Level) : (s.drive a v).answers = s.answers := by cases a <;> rfl
@[simp] theorem State.drive_draws (a : Line) (v : Level) : (s.drive a v).draws = s.draws := by cases a <;> rfl

/-! ### driveFailed -/

@[simp] theorem State.driveFailed_cr (a : Line) (v : Level) : (s.driveFailed a v).cr = s.cr := by cases a <;> rfl
@[simp] theorem State.driveFailed_data (a : Line) (v : Level) : (s.driveFailed a v).data = s.data := by cases a <;> rfl
@[simp] theorem State.driveFailed_frame (a : Line) (v : Level) : (s.driveFailed a v).frame = s.frame := by cases a <;> rfl
@[simp] theorem State.driveFailed_mode (a : Line) (v : Level) : (s.driveFailed a v).mode = s.mode := by cases a <;> rfl
@[simp] theorem State.driveFailed_fb (a : Line) (v : Level) : (s.driveFailed a v).fb = s.fb := by cases a <;> rfl
@[simp] theorem State.driveFailed_cb (a : Line) (v : Level) : (s.driveFailed a v).cb = s.cb := by cases a <;> rfl
@[simp] theorem State.driveFailed_k (a : Line) (v : Level) : (s.driveFailed a v).k = s.k := by cases a <;> rfl
@[simp] theorem State.driveFailed_hexmode (a : Line) (v : Level) : (s.driveFailed a v).hexmode = s.hexmode := by cases a <;> rfl
@[simp] theorem State.driveFailed_i (a : Line) (v : Level) : (s.driveFailed a v).i = s.i := by cases a <;> rfl
@[simp] theorem State.driveFailed_phase (a : Line) (v : Level) : (s.driveFailed a v).phase = s.phase := by cases a <;> rfl
@[simp] theorem State.driveFailed_txs (a : Line) (v : Level) : (s.driveFailed a v).txs = s.txs := by cases a <;> rfl
@[simp] theorem State.driveFailed_stepIx (a : Line) (v : Level) : (s.driveFailed a v).stepIx = s.stepIx := by cases a <;> rfl
@[simp] theorem State.driveFailed_timer (a : Line) (v : Level) : (s.driveFailed a v).timer = s.timer := by cases a <;> rfl
@[simp] theorem State.driveFailed_owned (a : Line) (v : Level) : (s.driveFailed a v).owned = s.owned := by cases a <;> rfl
@[simp] theorem State.driveFailed_exit (a : Line) (v : Level) : (s.driveFailed a v).exit = s.exit := by cases a <;> rfl
@[simp] theorem State.driveFailed_diag (a : Line) (v : Level) : (s.driveFailed a v).diag = s.diag := by cases a <;> rfl
@[simp] theorem State.driveFailed_cause (a : Line) (v : Level) : (s.driveFailed a v).cause = s.cause := by cases a <;> rfl
@[simp] theorem State.driveFailed_seq (a : Line) (v : Level) : (s.driveFailed a v).seq = s.seq := by cases a <;> rfl
@[simp] theorem State.driveFailed_host (a : Line) (v : Level) : (s.driveFailed a v).host = s.host := by cases a <;> rfl
@[simp] theorem State.driveFailed_answers (a : Line) (v : Level) : (s.driveFailed a v).answers = s.answers := by cases a <;> rfl
@[simp] theorem State.driveFailed_draws (a : Line) (v : Level) : (s.driveFailed a v).draws = s.draws := by cases a <;> rfl

/-! ### driveBoth -/

@[simp] theorem State.driveBoth_cr (vz vo : Level) : (s.driveBoth vz vo).cr = s.cr := rfl
@[simp] theorem State.driveBoth_data (vz vo : Level) : (s.driveBoth vz vo).data = s.data := rfl
@[simp] theorem State.driveBoth_frame (vz vo : Level) : (s.driveBoth vz vo).frame = s.frame := rfl
@[simp] theorem State.driveBoth_mode (vz vo : Level) : (s.driveBoth vz vo).mode = s.mode := rfl
@[simp] theorem State.driveBoth_fb (vz vo : Level) : (s.driveBoth vz vo).fb = s.fb := rfl
@[simp] theorem State.driveBoth_cb (vz vo : Level) : (s.driveBoth vz vo).cb = s.cb := rfl
@[simp] theorem State.driveBoth_k (vz vo : Level) : (s.driveBoth vz vo).k = s.k := rfl
@[simp] theorem State.driveBoth_hexmode (vz vo : Level) : (s.driveBoth vz vo).hexmode = s.hexmode := rfl
@[simp] theorem State.driveBoth_i (vz vo : Level) : (s.driveBoth vz vo).i = s.i := rfl
@[simp] theorem State.driveBoth_phase (vz vo : Level) : (s.driveBoth vz vo).phase = s.phase := rfl
@[simp] theorem State.driveBoth_txs (vz vo : Level) : (s.driveBoth vz vo).txs = s.txs := rfl
@[simp] theorem State.driveBoth_stepIx (vz vo : Level) : (s.driveBoth vz vo).stepIx = s.stepIx := rfl
@[simp] theorem State.driveBoth_timer (vz vo : Level) : (s.driveBoth vz vo).timer = s.timer := rfl
@[simp] theorem State.driveBoth_owned (vz vo : Level) : (s.driveBoth vz vo).owned = s.owned := rfl
@[simp] theorem State.driveBoth_lvl0 (vz vo : Level) : (s.driveBoth vz vo).lvl0 = vz := rfl
@[simp] theorem State.driveBoth_lvl1 (vz vo : Level) : (s.driveBoth vz vo).lvl1 = vo := rfl
@[simp] theorem State.driveBoth_exit (vz vo : Level) : (s.driveBoth vz vo).exit = s.exit := rfl
@[simp] theorem State.driveBoth_diag (vz vo : Level) : (s.driveBoth vz vo).diag = s.diag := rfl
@[simp] theorem State.driveBoth_cause (vz vo : Level) : (s.driveBoth vz vo).cause = s.cause := rfl
@[simp] theorem State.driveBoth_seq (vz vo : Level) : (s.driveBoth vz vo).seq = s.seq := rfl
@[simp] theorem State.driveBoth_host (vz vo : Level) : (s.driveBoth vz vo).host = s.host := rfl
@[simp] theorem State.driveBoth_answers (vz vo : Level) : (s.driveBoth vz vo).answers = s.answers := rfl
@[simp] theorem State.driveBoth_draws (vz vo : Level) : (s.driveBoth vz vo).draws = s.draws := rfl

/-! ### driveBothFailed -/

@[simp] theorem State.driveBothFailed_cr (vz vo : Level) : (s.driveBothFailed vz vo).cr = s.cr := rfl
@[simp] theorem State.driveBothFailed_data (vz vo : Level) : (s.driveBothFailed vz vo).data = s.data := rfl
@[simp] theorem State.driveBothFailed_frame (vz vo : Level) : (s.driveBothFailed vz vo).frame = s.frame := rfl
@[simp] theorem State.driveBothFailed_mode (vz vo : Level) : (s.driveBothFailed vz vo).mode = s.mode := rfl
@[simp] theorem State.driveBothFailed_fb (vz vo : Level) : (s.driveBothFailed vz vo).fb = s.fb := rfl
@[simp] theorem State.driveBothFailed_cb (vz vo : Level) : (s.driveBothFailed vz vo).cb = s.cb := rfl
@[simp] theorem State.driveBothFailed_k (vz vo : Level) : (s.driveBothFailed vz vo).k = s.k := rfl
@[simp] theorem State.driveBothFailed_hexmode (vz vo : Level) : (s.driveBothFailed vz vo).hexmode = s.hexmode := rfl
@[simp] theorem State.driveBothFailed_i (vz vo : Level) : (s.driveBothFailed vz vo).i = s.i := rfl
@[simp] theorem State.driveBothFailed_phase (vz vo : Level) : (s.driveBothFailed vz vo).phase = s.phase := rfl
@[simp] theorem State.driveBothFailed_txs (vz vo : Level) : (s.driveBothFailed vz vo).txs = s.txs := rfl
@[simp] theorem State.driveBothFailed_stepIx (vz vo : Level) : (s.driveBothFailed vz vo).stepIx = s.stepIx := rfl
@[simp] theorem State.driveBothFailed_timer (vz vo : Level) : (s.driveBothFailed vz vo).timer = s.timer := rfl
@[simp] theorem State.driveBothFailed_owned (vz vo : Level) : (s.driveBothFailed vz vo).owned = s.owned := rfl
@[simp] theorem State.driveBothFailed_lvl0 (vz vo : Level) : (s.driveBothFailed vz vo).lvl0 = uncertain (Config.tookEffectZero s.draws) s.lvl0 vz := rfl
@[simp] theorem State.driveBothFailed_lvl1 (vz vo : Level) : (s.driveBothFailed vz vo).lvl1 = uncertain (Config.tookEffectOne s.draws) s.lvl1 vo := rfl
@[simp] theorem State.driveBothFailed_exit (vz vo : Level) : (s.driveBothFailed vz vo).exit = s.exit := rfl
@[simp] theorem State.driveBothFailed_diag (vz vo : Level) : (s.driveBothFailed vz vo).diag = s.diag := rfl
@[simp] theorem State.driveBothFailed_cause (vz vo : Level) : (s.driveBothFailed vz vo).cause = s.cause := rfl
@[simp] theorem State.driveBothFailed_seq (vz vo : Level) : (s.driveBothFailed vz vo).seq = s.seq := rfl
@[simp] theorem State.driveBothFailed_host (vz vo : Level) : (s.driveBothFailed vz vo).host = s.host := rfl
@[simp] theorem State.driveBothFailed_answers (vz vo : Level) : (s.driveBothFailed vz vo).answers = s.answers := rfl
@[simp] theorem State.driveBothFailed_draws (vz vo : Level) : (s.driveBothFailed vz vo).draws = s.draws := rfl

/-! ### ownershipUnknown -/

@[simp] theorem State.ownershipUnknown_cr : (s.ownershipUnknown).cr = s.cr := rfl
@[simp] theorem State.ownershipUnknown_data : (s.ownershipUnknown).data = s.data := rfl
@[simp] theorem State.ownershipUnknown_frame : (s.ownershipUnknown).frame = s.frame := rfl
@[simp] theorem State.ownershipUnknown_mode : (s.ownershipUnknown).mode = s.mode := rfl
@[simp] theorem State.ownershipUnknown_fb : (s.ownershipUnknown).fb = s.fb := rfl
@[simp] theorem State.ownershipUnknown_cb : (s.ownershipUnknown).cb = s.cb := rfl
@[simp] theorem State.ownershipUnknown_k : (s.ownershipUnknown).k = s.k := rfl
@[simp] theorem State.ownershipUnknown_hexmode : (s.ownershipUnknown).hexmode = s.hexmode := rfl
@[simp] theorem State.ownershipUnknown_i : (s.ownershipUnknown).i = s.i := rfl
@[simp] theorem State.ownershipUnknown_phase : (s.ownershipUnknown).phase = s.phase := rfl
@[simp] theorem State.ownershipUnknown_txs : (s.ownershipUnknown).txs = s.txs := rfl
@[simp] theorem State.ownershipUnknown_stepIx : (s.ownershipUnknown).stepIx = s.stepIx := rfl
@[simp] theorem State.ownershipUnknown_timer : (s.ownershipUnknown).timer = s.timer := rfl
@[simp] theorem State.ownershipUnknown_owned : (s.ownershipUnknown).owned = Config.ownedAfterFail s.draws := rfl
@[simp] theorem State.ownershipUnknown_lvl0 : (s.ownershipUnknown).lvl0 = s.lvl0 := rfl
@[simp] theorem State.ownershipUnknown_lvl1 : (s.ownershipUnknown).lvl1 = s.lvl1 := rfl
@[simp] theorem State.ownershipUnknown_exit : (s.ownershipUnknown).exit = s.exit := rfl
@[simp] theorem State.ownershipUnknown_diag : (s.ownershipUnknown).diag = s.diag := rfl
@[simp] theorem State.ownershipUnknown_cause : (s.ownershipUnknown).cause = s.cause := rfl
@[simp] theorem State.ownershipUnknown_seq : (s.ownershipUnknown).seq = s.seq := rfl
@[simp] theorem State.ownershipUnknown_host : (s.ownershipUnknown).host = s.host := rfl
@[simp] theorem State.ownershipUnknown_answers : (s.ownershipUnknown).answers = s.answers := rfl
@[simp] theorem State.ownershipUnknown_draws : (s.ownershipUnknown).draws = s.draws := rfl

/-! ### grant -/

@[simp] theorem State.grant_cr : (s.grant).cr = s.cr := rfl
@[simp] theorem State.grant_data : (s.grant).data = s.data := rfl
@[simp] theorem State.grant_frame : (s.grant).frame = s.frame := rfl
@[simp] theorem State.grant_mode : (s.grant).mode = s.mode := rfl
@[simp] theorem State.grant_fb : (s.grant).fb = s.fb := rfl
@[simp] theorem State.grant_cb : (s.grant).cb = s.cb := rfl
@[simp] theorem State.grant_k : (s.grant).k = s.k := rfl
@[simp] theorem State.grant_hexmode : (s.grant).hexmode = s.hexmode := rfl
@[simp] theorem State.grant_i : (s.grant).i = s.i := rfl
@[simp] theorem State.grant_phase : (s.grant).phase = s.phase := rfl
@[simp] theorem State.grant_txs : (s.grant).txs = s.txs := rfl
@[simp] theorem State.grant_stepIx : (s.grant).stepIx = s.stepIx := rfl
@[simp] theorem State.grant_timer : (s.grant).timer = s.timer := rfl
@[simp] theorem State.grant_owned : (s.grant).owned = true := rfl
@[simp] theorem State.grant_lvl0 : (s.grant).lvl0 = .high := rfl
@[simp] theorem State.grant_lvl1 : (s.grant).lvl1 = .high := rfl
@[simp] theorem State.grant_exit : (s.grant).exit = s.exit := rfl
@[simp] theorem State.grant_diag : (s.grant).diag = s.diag := rfl
@[simp] theorem State.grant_cause : (s.grant).cause = s.cause := rfl
@[simp] theorem State.grant_seq : (s.grant).seq = s.seq := rfl
@[simp] theorem State.grant_host : (s.grant).host = s.host := rfl
@[simp] theorem State.grant_answers : (s.grant).answers = s.answers := rfl
@[simp] theorem State.grant_draws : (s.grant).draws = s.draws := rfl

/-! ### startHold -/

@[simp] theorem State.startHold_cr (k : HoldKind) : (s.startHold k).cr = s.cr := rfl
@[simp] theorem State.startHold_data (k : HoldKind) : (s.startHold k).data = s.data := rfl
@[simp] theorem State.startHold_frame (k : HoldKind) : (s.startHold k).frame = s.frame := rfl
@[simp] theorem State.startHold_mode (k : HoldKind) : (s.startHold k).mode = s.mode := rfl
@[simp] theorem State.startHold_fb (k : HoldKind) : (s.startHold k).fb = s.fb := rfl
@[simp] theorem State.startHold_cb (k : HoldKind) : (s.startHold k).cb = s.cb := rfl
@[simp] theorem State.startHold_k (k : HoldKind) : (s.startHold k).k = s.k := rfl
@[simp] theorem State.startHold_hexmode (k : HoldKind) : (s.startHold k).hexmode = s.hexmode := rfl
@[simp] theorem State.startHold_i (k : HoldKind) : (s.startHold k).i = s.i := rfl
@[simp] theorem State.startHold_phase (k : HoldKind) : (s.startHold k).phase = s.phase := rfl
@[simp] theorem State.startHold_txs (k : HoldKind) : (s.startHold k).txs = s.txs := rfl
@[simp] theorem State.startHold_stepIx (k : HoldKind) : (s.startHold k).stepIx = s.stepIx := rfl
@[simp] theorem State.startHold_timer (k : HoldKind) : (s.startHold k).timer = s.holdUs k := rfl
@[simp] theorem State.startHold_owned (k : HoldKind) : (s.startHold k).owned = s.owned := rfl
@[simp] theorem State.startHold_lvl0 (k : HoldKind) : (s.startHold k).lvl0 = s.lvl0 := rfl
@[simp] theorem State.startHold_lvl1 (k : HoldKind) : (s.startHold k).lvl1 = s.lvl1 := rfl
@[simp] theorem State.startHold_exit (k : HoldKind) : (s.startHold k).exit = s.exit := rfl
@[simp] theorem State.startHold_diag (k : HoldKind) : (s.startHold k).diag = s.diag := rfl
@[simp] theorem State.startHold_cause (k : HoldKind) : (s.startHold k).cause = s.cause := rfl
@[simp] theorem State.startHold_seq (k : HoldKind) : (s.startHold k).seq = .hold k := rfl
@[simp] theorem State.startHold_host (k : HoldKind) : (s.startHold k).host = s.host := rfl
@[simp] theorem State.startHold_answers (k : HoldKind) : (s.startHold k).answers = s.answers := rfl
@[simp] theorem State.startHold_draws (k : HoldKind) : (s.startHold k).draws = s.draws := rfl

/-! ### endRun -/

@[simp] theorem State.endRun_cr : (s.endRun).cr = s.cr := rfl
@[simp] theorem State.endRun_data : (s.endRun).data = s.data := rfl
@[simp] theorem State.endRun_frame : (s.endRun).frame = s.frame := rfl
@[simp] theorem State.endRun_mode : (s.endRun).mode = s.mode := rfl
@[simp] theorem State.endRun_fb : (s.endRun).fb = s.fb := rfl
@[simp] theorem State.endRun_cb : (s.endRun).cb = s.cb := rfl
@[simp] theorem State.endRun_k : (s.endRun).k = s.k := rfl
@[simp] theorem State.endRun_hexmode : (s.endRun).hexmode = s.hexmode := rfl
@[simp] theorem State.endRun_i : (s.endRun).i = s.i := rfl
@[simp] theorem State.endRun_phase : (s.endRun).phase = .done := rfl
@[simp] theorem State.endRun_txs : (s.endRun).txs = s.txs := rfl
@[simp] theorem State.endRun_stepIx : (s.endRun).stepIx = s.stepIx := rfl
@[simp] theorem State.endRun_timer : (s.endRun).timer = s.timer := rfl
@[simp] theorem State.endRun_owned : (s.endRun).owned = s.owned := rfl
@[simp] theorem State.endRun_lvl0 : (s.endRun).lvl0 = s.lvl0 := rfl
@[simp] theorem State.endRun_lvl1 : (s.endRun).lvl1 = s.lvl1 := rfl
@[simp] theorem State.endRun_exit : (s.endRun).exit = some Config.exitOk := rfl
@[simp] theorem State.endRun_diag : (s.endRun).diag = [] := rfl
@[simp] theorem State.endRun_cause : (s.endRun).cause = s.cause := rfl
@[simp] theorem State.endRun_seq : (s.endRun).seq = s.seq := rfl
@[simp] theorem State.endRun_host : (s.endRun).host = s.host := rfl
@[simp] theorem State.endRun_answers : (s.endRun).answers = s.answers := rfl
@[simp] theorem State.endRun_draws : (s.endRun).draws = s.draws := rfl

/-! ### The driven line and the other one -/

@[simp] theorem State.drive_zero_lvl0 (v : Level) : (s.drive .zero v).lvl0 = v := rfl
@[simp] theorem State.drive_zero_lvl1 (v : Level) : (s.drive .zero v).lvl1 = s.lvl1 := rfl
@[simp] theorem State.drive_one_lvl0 (v : Level) : (s.drive .one v).lvl0 = s.lvl0 := rfl
@[simp] theorem State.drive_one_lvl1 (v : Level) : (s.drive .one v).lvl1 = v := rfl
@[simp] theorem State.driveFailed_zero_lvl0 (v : Level) :
    (s.driveFailed .zero v).lvl0 = uncertain (Config.tookEffectZero s.draws) s.lvl0 v := rfl
@[simp] theorem State.driveFailed_zero_lvl1 (v : Level) : (s.driveFailed .zero v).lvl1 = s.lvl1 := rfl
@[simp] theorem State.driveFailed_one_lvl0 (v : Level) : (s.driveFailed .one v).lvl0 = s.lvl0 := rfl
@[simp] theorem State.driveFailed_one_lvl1 (v : Level) :
    (s.driveFailed .one v).lvl1 = uncertain (Config.tookEffectOne s.draws) s.lvl1 v := rfl

/-- A failed set leaves its target at the old or at the new level (20 R72). -/
theorem uncertain_old_or_new (took : Bool) (old new : Level) :
    uncertain took old new = old ∨ uncertain took old new = new := by
  cases took <;> simp [uncertain]

/-! ### Views -/

theorem State.rawChars_eq (t : State) (h : t.cr = s.cr) : t.rawChars = s.rawChars := by
  simp only [State.rawChars, h]

/-! ### Host writes -/

section

variable (r : ConfigRegs)

@[simp] theorem RegWrite.apply_chip (v : List Byte) :
    (RegWrite.chip v).apply r = { r with chip := v } := rfl
@[simp] theorem RegWrite.apply_d0 (v : Nat) :
    (RegWrite.d0 v).apply r = { r with d0 := some v } := rfl
@[simp] theorem RegWrite.apply_d1 (v : Nat) :
    (RegWrite.d1 v).apply r = { r with d1 := some v } := rfl
@[simp] theorem RegWrite.apply_format (v : BitVec 8) :
    (RegWrite.format v).apply r = { r with format := v } := rfl
@[simp] theorem RegWrite.apply_facilityBits (v : Nat) :
    (RegWrite.facilityBits v).apply r = { r with facilityBits := some v } := rfl
@[simp] theorem RegWrite.apply_cardBits (v : Nat) :
    (RegWrite.cardBits v).apply r = { r with cardBits := some v } := rfl
@[simp] theorem RegWrite.apply_facility (v : Nat) :
    (RegWrite.facility v).apply r = { r with facility := v } := rfl
@[simp] theorem RegWrite.apply_card (v : Nat) :
    (RegWrite.card v).apply r = { r with card := v } := rfl
@[simp] theorem RegWrite.apply_raw (v : List Byte) :
    (RegWrite.raw v).apply r = { r with raw := some v } := rfl
@[simp] theorem RegWrite.apply_parity (v : BitVec 2) :
    (RegWrite.parity v).apply r = { r with parity := v } := rfl
@[simp] theorem RegWrite.apply_frameBits (v : Nat) :
    (RegWrite.frameBits v).apply r = { r with frameBits := some v } := rfl
@[simp] theorem RegWrite.apply_pulseUs (v : Nat) :
    (RegWrite.pulseUs v).apply r = { r with pulseUs := v } := rfl
@[simp] theorem RegWrite.apply_spaceUs (v : Nat) :
    (RegWrite.spaceUs v).apply r = { r with spaceUs := v } := rfl

end

end Sys2Proof.Machine
end

