-- ==== Sys2Proof/Laws/Ops.lean ====
section
/-! SUPPORT. What each shared operation can do, said once: later proofs cite these and do not unfold the operation. -/

namespace Sys2Proof.Machine

variable {s t : State}

/-- The bits of a character are appended and K advances, or the run ends by E_CAPACITY (42 R158). -/
theorem appendChar_next {bits : BitSeq} (h : s.appendChar bits = .next t) :
    (s.data.length + bits.length ≤ Config.dataCap ∧
      t = { s with data := s.data ++ bits, k := s.k + 1, seq := .literal }) ∨
    (Config.dataCap < s.data.length + bits.length ∧ t = s.raiseFatal .capacity) := by
  unfold State.appendChar at h
  split at h
  · exact .inr ⟨by assumption, by simpa using h.symm⟩
  · exact .inl ⟨by omega, by simpa [State.nextChar] using h.symm⟩

theorem appendChar_fits {bits : BitSeq} (h : s.data.length + bits.length ≤ Config.dataCap) :
    s.appendChar bits = .next { s with data := s.data ++ bits, k := s.k + 1, seq := .literal } := by
  simp [State.appendChar, State.nextChar, Nat.not_lt.mpr h]

theorem appendChar_overflow {bits : BitSeq} (h : Config.dataCap < s.data.length + bits.length) :
    s.appendChar bits = .next (s.raiseFatal .capacity) := by
  simp [State.appendChar, h]

/-- DATA becomes the two fields, or the run ends by E_CAPACITY (42 R156). -/
theorem composeData_next (h : s.composeData = .next t) :
    (s.fb + s.cb ≤ Config.dataCap ∧
      t = { s with data := msbFirst s.cr.facility s.fb ++ msbFirst s.cr.card s.cb, seq := .fstep .pad }) ∨
    (Config.dataCap < s.fb + s.cb ∧ t = s.raiseFatal .capacity) := by
  unfold State.composeData at h
  split at h
  · exact .inr ⟨by assumption, by simpa using h.symm⟩
  · exact .inl ⟨by omega, by simpa [State.goto] using h.symm⟩

/-- FRAME becomes `f` and the gate is next, or the run ends by E_CAPACITY (43 R175). -/
theorem writeFrame_next {f : BitSeq} (h : s.writeFrame f = .next t) :
    (f.length ≤ Config.frameCap ∧ t = { s with frame := f, seq := .stage .fval }) ∨
    (Config.frameCap < f.length ∧ t = s.raiseFatal .capacity) := by
  unfold State.writeFrame at h
  split at h
  · exact .inr ⟨by assumption, by simpa using h.symm⟩
  · exact .inl ⟨by omega, by simpa [State.goto] using h.symm⟩

theorem writeFrame_fits {f : BitSeq} (h : f.length ≤ Config.frameCap) :
    s.writeFrame f = .next { s with frame := f, seq := .stage .fval } := by
  simp [State.writeFrame, State.goto, Nat.not_lt.mpr h]

/-- Under the switch EMPTY_DATA_OK the end of BUILD only hands over to the parity encoder (42 R160). -/
theorem endBuild_true : s.endBuild true = .next { s with seq := .stage .par } := by
  simp [State.endBuild, State.goto]

/-- A preset gives the widths that have no override; without a preset the run ends by E_FORMAT or, with both widths
explicit, nothing happens (42 R153, R154). -/
theorem takePreset_next {id : BitVec 8} (h : s.takePreset id = .next t) :
    (∃ pf pc, preset id = some (pf, pc) ∧
      t = { s with fb := s.cr.facilityBits.getD pf, cb := s.cr.cardBits.getD pc, seq := .fstep .range }) ∨
    (preset id = none ∧ s.widthsExplicit = true ∧ t = { s with seq := .fstep .range }) ∨
    (preset id = none ∧ s.widthsExplicit = false ∧ t = s.raiseFatal .format) := by
  unfold State.takePreset at h
  split at h
  · rename_i pf pc hp
    exact .inl ⟨pf, pc, hp, by simpa [State.goto] using h.symm⟩
  · rename_i hp
    split at h
    · exact .inr (.inl ⟨hp, by assumption, by simpa [State.goto] using h.symm⟩)
    · rename_i hw
      exact .inr (.inr ⟨hp, Bool.eq_false_iff.mpr hw, by simpa using h.symm⟩)

/-- LREQ: granted, or E_LINE_REQUEST with nothing owned and no level changed (20 R68). -/
theorem lineRequest_next (h : s.lineRequest = .next t) :
    (s.answer = .ok ∧ t = { s.answered with
        owned := true, lvl0 := .high, lvl1 := .high, stepIx := s.stepIx + 1, seq := .txstep .init }) ∨
    (s.answer = .fail ∧ t = ({ s.answered with owned := false }).raiseFatal .lineRequest) := by
  unfold State.lineRequest at h
  split at h
  · rename_i ha
    exact .inl ⟨ha, by simpa [State.goto, State.entryDone, State.answered, State.grant] using h.symm⟩
  · rename_i ha
    exact .inr ⟨ha, by simpa [State.answered, State.raiseFatal] using h.symm⟩

/-- LSET1: the line is driven and its hold begins, or E_LINE_SET; with OWNED = 0 it is no operation (20 R69, R72). -/
theorem lineSet_next {a : Line} {v : Level} (h : s.lineSet a v = .next t) :
    s.owned = true ∧
    ((s.answer = .ok ∧ t = (s.drive a v).answered.entryDone.startHold (holdAfter a v)) ∨
     (s.answer = .fail ∧ t = (s.driveFailed a v).ownershipUnknown.answered.raiseFatal .lineSet)) := by
  unfold State.lineSet at h
  split at h
  · refine ⟨by assumption, ?_⟩
    split at h
    · rename_i ha
      exact .inl ⟨ha, by simpa using h.symm⟩
    · rename_i ha
      exact .inr ⟨ha, by simpa using h.symm⟩
  · simp at h

/-- LSETB: both lines are driven and the next step of the transmitter follows, or E_LINE_SET (20 R70, R72). -/
theorem lineSetBoth_next {vz vo : Level} (h : s.lineSetBoth vz vo = .next t) :
    s.owned = true ∧
    ((s.answer = .ok ∧ t = { s.answered with
        lvl0 := vz, lvl1 := vo, stepIx := s.stepIx + 1,
        seq := .txstep (if s.stepIx = 1 then .settle else .rel) }) ∨
     (s.answer = .fail ∧ t = (s.driveBothFailed vz vo).ownershipUnknown.answered.raiseFatal .lineSet)) := by
  unfold State.lineSetBoth at h
  split at h
  · refine ⟨by assumption, ?_⟩
    split at h
    · rename_i ha
      exact .inl ⟨ha, by simpa [State.goto, State.entryDone, State.answered, State.driveBoth] using h.symm⟩
    · rename_i ha
      exact .inr ⟨ha, by simpa using h.symm⟩
  · simp at h

/-- LREL: ownership is given up and the transmitter is Settled, or E_LINE_RELEASE (20 R71, R72). -/
theorem lineRelease_next (h : s.lineRelease = .next t) :
    (s.answer = .ok ∧ t = { s.answered with
        owned := false, txs := .settled, stepIx := s.stepIx + 1, seq := .finish }) ∨
    (s.answer = .fail ∧ t = s.ownershipUnknown.answered.raiseFatal .lineRelease) := by
  unfold State.lineRelease at h
  split at h
  · rename_i ha
    exact .inl ⟨ha, by simpa [State.goto, State.entryDone, State.answered] using h.symm⟩
  · rename_i ha
    exact .inr ⟨ha, by simpa using h.symm⟩

/-- While TIMER counts, a hold changes nothing else (45 R199). -/
theorem holdTick_running {k : HoldKind} (h : s.timer ≠ 0) :
    s.holdTick k = { s with timer := s.timer - 1 } := by
  simp [State.holdTick, h]

/-- At TIMER = 0 a hold is over (45 R199). -/
theorem holdTick_over {k : HoldKind} (h : s.timer = 0) : s.holdTick k = s.holdDone k := by
  simp [State.holdTick, h]

/-- The answer in hand is the head of the environment's script (20 R67). -/
theorem answer_of_script {a : Answer} {rest : List Answer} (h : s.answers = a :: rest) : s.answer = a := by
  simp [State.answer, h]

/-- One line operation draws one answer (20 R67). -/
theorem answer_ok_or_fail : s.answer = .ok ∨ s.answer = .fail := by
  cases s.answer <;> simp

/-- The diagnostic line is one line of text (60 R231). -/
theorem diagLine_no_line_feed (n : Nat) : (0x0A : Byte) ∉ diagLine n := by
  simp [diagLine]

end Sys2Proof.Machine
end

