-- ==== Sys2Proof/Laws/Buffers.lean ====
section
/-! SUPPORT. The bit buffers: every operation that writes one keeps them within capacity, and what the sequences of
00 R9 to R11 satisfy. -/

namespace Sys2Proof.Machine

variable {s t : State}

theorem reset_buffersWf : State.reset.buffersWf := by decide

theorem raiseFatal_buffersWf (c : Cause) (h : s.buffersWf) : (s.raiseFatal c).buffersWf := h

/-- No literal character takes DATA past its capacity (20 R63). -/
theorem appendChar_buffersWf {bits : BitSeq} (h : s.buffersWf) (hs : s.appendChar bits = .next t) : t.buffersWf := by
  obtain ⟨fits, rfl⟩ | ⟨-, rfl⟩ := appendChar_next hs
  · exact ⟨by simpa using fits, h.2⟩
  · exact h

@[simp] theorem msbFirst_length (v w : Nat) : (msbFirst v w).length = w := by simp [msbFirst]

/-- Element j of msb_first(v, w) is bit w-1-j of v (00 R10). -/
theorem msbFirst_get (v w j : Nat) (h : j < w) : (msbFirst v w)[j]? = some (bitAt v (w - 1 - j)) := by
  simp [msbFirst, h]

@[simp] theorem zeros_length (n : Nat) : (zeros n).length = n := by simp [zeros]

/-- No composition takes DATA past its capacity (42 R156). -/
theorem composeData_buffersWf (h : s.buffersWf) (hs : s.composeData = .next t) : t.buffersWf := by
  obtain ⟨fits, rfl⟩ | ⟨-, rfl⟩ := composeData_next hs
  · exact ⟨by simpa using fits, h.2⟩
  · exact h

/-- No frame is longer than its capacity (43 R175). -/
theorem writeFrame_buffersWf {f : BitSeq} (h : s.buffersWf) (hs : s.writeFrame f = .next t) : t.buffersWf := by
  obtain ⟨fits, rfl⟩ | ⟨-, rfl⟩ := writeFrame_next hs
  · exact ⟨h.1, fits⟩
  · exact h

/-- No pad takes DATA past its capacity (42 R157). -/
theorem execFieldPad_buffersWf (h : s.buffersWf) (hs : execFieldPad s = .next t) : t.buffersWf := by
  simp only [execFieldPad, Config.emptyDataOk, endBuild_true] at hs
  split at hs
  · cases hs; exact h
  split at hs
  · cases hs; exact h
  split at hs
  · cases hs; exact h
  split at hs
  · cases hs; exact h
  rename_i short cap
  cases hs
  exact ⟨by simp only [State.dlen] at short ⊢; simp; omega, h.2⟩

/-- A new DATA and a new FRAME begin empty (42 R140, 43 R170). -/
theorem emptied_buffersWf (h : s.buffersWf) :
    ({ s with data := [] } : State).buffersWf ∧ ({ s with frame := [] } : State).buffersWf :=
  ⟨⟨Nat.zero_le _, h.2⟩, ⟨h.1, Nat.zero_le _⟩⟩

@[simp] theorem ones_nil : ones [] = 0 := rfl

@[simp] theorem ones_append (a b : BitSeq) : ones (a ++ b) = ones a + ones b := by simp [ones]

@[simp] theorem ones_singleton (b : Bit) : ones [b] = b.toNat := by cases b <;> rfl

/-- Evenness of a count is that of its remainder (00 R11). -/
theorem isEven_iff (c : Nat) : isEven c = true ↔ c % 2 = 0 := by simp [isEven]

/-- Standard parity adds two bits (43 R174). -/
@[simp] theorem stdFrame_length (d : BitSeq) : (stdFrame d).length = d.length + 2 := by
  simp [stdFrame]

end Sys2Proof.Machine
end

