-- ==== Sys2Proof/Laws/Decode.lean ====
section
/-! SUPPORT. Decoding: the classes of literal characters, and the operands of line operations there and back. -/

namespace Sys2Proof

@[simp] theorem levelOfBit_bitOfLevel (v : Level) : levelOfBit (bitOfLevel v) = v := by cases v <;> rfl
@[simp] theorem lineOfBit_bitOfLine (a : Line) : lineOfBit (bitOfLine a) = a := by cases a <;> rfl
@[simp] theorem bitOfLevel_levelOfBit (b : BitVec 1) : bitOfLevel (levelOfBit b) = b := by revert b; decide
@[simp] theorem bitOfLine_lineOfBit (b : BitVec 1) : bitOfLine (lineOfBit b) = b := by revert b; decide

/-- A character of no binary row is BIN.ILL (30 R93). -/
theorem decodeLit_binIll (ch : Byte) (h : ch ∉ binChars) : decodeLit true (litCode false ch) = .binIll ch := by
  revert ch; decide

/-- A character of no hex row is HEX.ILL (30 R94). -/
theorem decodeLit_hexIll (ch : Byte) (h : ch ∉ hexChars true) : decodeLit true (litCode true ch) = .hexIll ch := by
  revert ch; decide

/-- An identifier outside the supported set is FMT.ILL (30 R105). -/
theorem decodeFormat_ill (id : BitVec 8) (h : id ∉ formatIds) : decodeFormat id = .fmtIll id := by
  revert id; decide

theorem prefixCode_fst (c0 c1 : Byte) : (prefixCode c0 c1).extractLsb' 8 8 = c0 := by
  unfold prefixCode
  apply BitVec.eq_of_getLsbD_eq
  intro i hi
  simp [hi, show 8 + i < 16 by omega]

theorem prefixCode_snd (c0 c1 : Byte) : (prefixCode c0 c1).extractLsb' 0 8 = c1 := by
  unfold prefixCode
  apply BitVec.eq_of_getLsbD_eq
  intro i hi
  simp [hi, show i < 16 by omega]

/-- Two characters that are no hex prefix are RAW.PREFIX.BIN (30 R92). -/
theorem decodePrefix_bin (c0 c1 : Byte) (h : isHexPrefix c0 c1 = false) :
    decodePrefix (some (prefixCode c0 c1)) = .rawPrefixBin (some (c0, c1)) := by
  have h0 := prefixCode_fst c0 c1
  have h1 := prefixCode_snd c0 c1
  have ne : ∀ w : BitVec 16, prefixCode c0 c1 = w →
      isHexPrefix (w.extractLsb' 8 8) (w.extractLsb' 0 8) = false := by
    rintro w rfl; rwa [h0, h1]
  have n78 : prefixCode c0 c1 ≠ 0x3078 := fun e => absurd (ne _ e) (by decide)
  have n58 : prefixCode c0 c1 ≠ 0x3058 := fun e => absurd (ne _ e) (by decide)
  simp only [decodePrefix, n78, n58, if_false, h0, h1]

end Sys2Proof
end

