-- ==== Sys2Proof/Laws/Literal.lean ====
section
/-! SUPPORT. The characters of a literal: what the decoded operation of a character does, by the bits it yields. -/

namespace Sys2Proof.Machine

/-- The bits that the operation of a literal character appends, none for an illegal one; `none` outside where the
operation is of another format. -/
def litBits : Instr → Option (Option BitSeq)
  | .bin0 => some (some [false])
  | .bin1 => some (some [true])
  | .binSp | .binUs => some (some [])
  | .binIll _ | .hexIll _ => some none
  | .hex0 => some (some (msbFirst 0 4))
  | .hex1 => some (some (msbFirst 1 4))
  | .hex2 => some (some (msbFirst 2 4))
  | .hex3 => some (some (msbFirst 3 4))
  | .hex4 => some (some (msbFirst 4 4))
  | .hex5 => some (some (msbFirst 5 4))
  | .hex6 => some (some (msbFirst 6 4))
  | .hex7 => some (some (msbFirst 7 4))
  | .hex8 => some (some (msbFirst 8 4))
  | .hex9 => some (some (msbFirst 9 4))
  | .hexUA | .hexLA => some (some (msbFirst 10 4))
  | .hexUB | .hexLB => some (some (msbFirst 11 4))
  | .hexUC | .hexLC => some (some (msbFirst 12 4))
  | .hexUD | .hexLD => some (some (msbFirst 13 4))
  | .hexUE | .hexLE => some (some (msbFirst 14 4))
  | .hexUF | .hexLF => some (some (msbFirst 15 4))
  | _ => none

/-- The decoder and the reference agree on what a binary-mode character yields (30 R93). -/
theorem litBits_decode_bin (ch : Byte) :
    litBits (decodeLit true (litCode false ch)) = some (charBits true false ch) := by
  revert ch; decide

/-- The decoder and the reference agree on what a hex-mode character yields (30 R94, R95). -/
theorem litBits_decode_hex (ch : Byte) :
    litBits (decodeLit true (litCode true ch)) = some (charBits true true ch) := by
  revert ch; decide

theorem litBits_decode (hex : Bool) (ch : Byte) :
    litBits (decodeLit true (litCode hex ch)) = some (charBits true hex ch) := by
  cases hex
  · exact litBits_decode_bin ch
  · exact litBits_decode_hex ch

/-- An illegal character ends the run by E_RAW_CHAR (42 R147, R150). -/
theorem exec_of_litBits_illegal {i : Instr} {s : State} (h : litBits i = some none) :
    exec i s = .next (s.raiseFatal .rawChar) := by
  cases i <;> first | rfl | (simp [litBits] at h)

/-- A legal character appends its bits (42 R143 to R149). -/
theorem exec_of_litBits_legal {i : Instr} {s : State} {bits : BitSeq} (h : litBits i = some (some bits))
    (fits : s.data.length ≤ Config.dataCap) : exec i s = s.appendChar bits := by
  have skip : s.skipChar = s.appendChar [] := by
    rw [appendChar_fits (by simpa using fits)]; simp [State.skipChar, State.nextChar]
  cases i <;> simp only [litBits, Option.some.injEq, reduceCtorEq] at h <;> subst h <;> first | rfl | exact skip

end Sys2Proof.Machine
end

