-- ==== Sys2Proof/Laws/PerInstr.lean ====
section
/-! SUPPORT. RoundTrip, constructor by constructor: decoding the encoding of a well-formed operation gives it back. -/

namespace Sys2Proof.Laws.RoundTrip

/-- Decoding undoes encoding for a well-formed operation (30 R108). -/
def Statement (i : Instr) : Prop := i.wf = true → decode (encode i) = .ok i

theorem start : Statement .start := fun _ => rfl
theorem cfgchk : Statement .cfgchk := fun _ => rfl
theorem build : Statement .build := fun _ => rfl
theorem buildRaw : Statement .buildRaw := fun _ => rfl
theorem rawPrefixHex (upper : Bool) : Statement (.rawPrefixHex upper) := by cases upper <;> (intro _; rfl)
theorem rawPrefixBin (chars : Option (Byte × Byte)) : Statement (.rawPrefixBin chars) := by
  rcases chars with _ | ⟨c0, c1⟩
  · intro _; rfl
  · intro h
    exact congrArg Except.ok (decodePrefix_bin c0 c1 (by simpa [Instr.wf] using h))

theorem bin0 : Statement .bin0 := fun _ => rfl
theorem bin1 : Statement .bin1 := fun _ => rfl
theorem binSp : Statement .binSp := fun _ => rfl
theorem binUs : Statement .binUs := fun _ => rfl
theorem binIll (ch : Byte) : Statement (.binIll ch) := by
  intro h
  exact congrArg Except.ok (decodeLit_binIll ch (by simpa [Instr.wf] using h))

theorem hex0 : Statement .hex0 := fun _ => rfl
theorem hex1 : Statement .hex1 := fun _ => rfl
theorem hex2 : Statement .hex2 := fun _ => rfl
theorem hex3 : Statement .hex3 := fun _ => rfl
theorem hex4 : Statement .hex4 := fun _ => rfl
theorem hex5 : Statement .hex5 := fun _ => rfl
theorem hex6 : Statement .hex6 := fun _ => rfl
theorem hex7 : Statement .hex7 := fun _ => rfl
theorem hex8 : Statement .hex8 := fun _ => rfl
theorem hex9 : Statement .hex9 := fun _ => rfl
theorem hexUA : Statement .hexUA := fun _ => rfl
theorem hexUB : Statement .hexUB := fun _ => rfl
theorem hexUC : Statement .hexUC := fun _ => rfl
theorem hexUD : Statement .hexUD := fun _ => rfl
theorem hexUE : Statement .hexUE := fun _ => rfl
theorem hexUF : Statement .hexUF := fun _ => rfl
theorem hexLA : Statement .hexLA := fun _ => rfl
theorem hexLB : Statement .hexLB := fun _ => rfl
theorem hexLC : Statement .hexLC := fun _ => rfl
theorem hexLD : Statement .hexLD := fun _ => rfl
theorem hexLE : Statement .hexLE := fun _ => rfl
theorem hexLF : Statement .hexLF := fun _ => rfl
theorem hexIll (ch : Byte) : Statement (.hexIll ch) := by
  intro h
  exact congrArg Except.ok (decodeLit_hexIll ch (by simpa [Instr.wf, Config.hexLowerOk] using h))

theorem buildField : Statement .buildField := fun _ => rfl
theorem fieldResolve : Statement .fieldResolve := fun _ => rfl
theorem fmt26 : Statement .fmt26 := fun _ => rfl
theorem fmt34 : Statement .fmt34 := fun _ => rfl
theorem fmt35 : Statement .fmt35 := fun _ => rfl
theorem fmt37 : Statement .fmt37 := fun _ => rfl
theorem fmt48 : Statement .fmt48 := fun _ => rfl
theorem fmtIll (id : BitVec 8) : Statement (.fmtIll id) := by
  intro h
  exact congrArg Except.ok (decodeFormat_ill id (by simpa [Instr.wf] using h))

theorem fieldRange : Statement .fieldRange := fun _ => rfl
theorem fieldCompose : Statement .fieldCompose := fun _ => rfl
theorem fieldPad : Statement .fieldPad := fun _ => rfl
theorem par : Statement .par := fun _ => rfl
theorem parNone : Statement .parNone := fun _ => rfl
theorem parWeven : Statement .parWeven := fun _ => rfl
theorem parWodd : Statement .parWodd := fun _ => rfl
theorem parStd : Statement .parStd := fun _ => rfl
theorem fval : Statement .fval := fun _ => rfl
theorem tx : Statement .tx := fun _ => rfl
theorem txReq : Statement .txReq := fun _ => rfl
theorem txInit : Statement .txInit := fun _ => rfl
theorem txSettle : Statement .txSettle := fun _ => rfl
theorem pulse0 : Statement .pulse0 := fun _ => rfl
theorem pulse1 : Statement .pulse1 := fun _ => rfl
theorem txEnd : Statement .txEnd := fun _ => rfl
theorem txRel : Statement .txRel := fun _ => rfl
theorem lreq (chip : List Byte) (z : Nat) (o : Nat) : Statement (.lreq chip z o) := fun _ => rfl
theorem lset1 (line : Line) (level : Level) : Statement (.lset1 line level) := by cases line <;> cases level <;> (intro _; rfl)
theorem lsetb (levelZ : Level) (levelO : Level) : Statement (.lsetb levelZ levelO) := by cases levelZ <;> cases levelO <;> (intro _; rfl)
theorem lrel : Statement .lrel := fun _ => rfl

end Sys2Proof.Laws.RoundTrip
end

