-- ==== Sys2Proof/Laws/Step.lean ====
section
/-! SUPPORT. What a step does at each place of the sequencer, one lemma a place: later proofs cite these and do not
unfold `step`. -/

namespace Sys2Proof.Machine

variable {s : State}

/-- A run is under way (10 R37). -/
def State.running (s : State) : Prop := s.phase = .encoding ∨ s.phase = .transmitting

/-- In a run the sequencer's code is decoded. -/
theorem fetch_running (h : s.running) : s.fetch = s.seqCode := by
  rcases h with h | h <;> simp [State.fetch, h]

/-- In a run nothing is consumed by decoding. -/
theorem afterFetch_running (h : s.running) : s.afterFetch = s := by
  rcases h with h | h <;> simp [State.afterFetch, h]

/-- A step runs the operation that the sequencer's code decodes to. -/
theorem step_decoded (h : s.running) {c : Code} {i : Instr} (hc : s.seqCode = some c) (hi : decode c = .ok i) :
    step s = exec i s := by
  simp [step, fetch_running h, hc, hi, afterFetch_running h]

/-- Without a code the sequencer acts by itself. -/
theorem step_between (h : s.running) (hc : s.seqCode = none) : step s = s.sequence := by
  simp [step, fetch_running h, hc]

/-! ### The stages -/

theorem step_cfgchk (h : s.running) (q : s.seq = .stage .cfgchk) : step s = execCfgchk s :=
  step_decoded h (i := .cfgchk) (by simp [State.seqCode, q]; rfl) rfl

theorem step_build (h : s.running) (q : s.seq = .stage .build) : step s = execBuild s :=
  step_decoded h (i := .build) (by simp [State.seqCode, q]; rfl) rfl

theorem step_par (h : s.running) (q : s.seq = .stage .par) : step s = execPar s :=
  step_decoded h (i := .par) (by simp [State.seqCode, q]; rfl) rfl

theorem step_fval (h : s.running) (q : s.seq = .stage .fval) : step s = execFval s :=
  step_decoded h (i := .fval) (by simp [State.seqCode, q]; rfl) rfl

theorem step_tx (h : s.running) (q : s.seq = .stage .tx) : step s = execTx s :=
  step_decoded h (i := .tx) (by simp [State.seqCode, q]; rfl) rfl

/-! ### The frame builder -/

theorem step_mode_raw (h : s.running) (q : s.seq = .mode) (r : s.cr.raw.isSome = true) : step s = execBuildRaw s :=
  step_decoded h (i := .buildRaw) (by simp only [State.seqCode, q, r, if_true]; rfl) rfl

theorem step_mode_field (h : s.running) (q : s.seq = .mode) (r : s.cr.raw.isSome = false) :
    step s = execBuildField s :=
  step_decoded h (i := .buildField) (by simp only [State.seqCode, q, r]; rfl) rfl

/-- The hex prefix: HEXMODE <- 1; K <- 2 (42 R142). -/
theorem step_prefix_hex (h : s.running) (q : s.seq = .litPrefix) {c1 : Byte} {rest : List Byte}
    (r : s.rawChars = 0x30 :: c1 :: rest) (c : c1 = 0x78 ∨ c1 = 0x58) :
    step s = .next { s with hexmode := true, k := 2, seq := .literal } := by
  rcases c with rfl | rfl
  · exact step_decoded h (i := .rawPrefixHex false) (by simp only [State.seqCode, q, r]; rfl) rfl
  · exact step_decoded h (i := .rawPrefixHex true) (by simp only [State.seqCode, q, r]; rfl) rfl

/-- Any other beginning, a literal of fewer than two characters included: HEXMODE <- 0; K <- 0 (42 R142). -/
theorem step_prefix_bin (h : s.running) (q : s.seq = .litPrefix)
    (r : ∀ c1 rest, s.rawChars = 0x30 :: c1 :: rest → c1 ≠ 0x78 ∧ c1 ≠ 0x58) :
    step s = .next { s with hexmode := false, k := 0, seq := .literal } := by
  match e : s.rawChars with
  | [] => exact step_decoded h (i := .rawPrefixBin none) (by simp only [State.seqCode, q, e]; rfl) rfl
  | [_] => exact step_decoded h (i := .rawPrefixBin none) (by simp only [State.seqCode, q, e]; rfl) rfl
  | c0 :: c1 :: rest =>
    have hp : isHexPrefix c0 c1 = false := by
      by_cases h0 : c0 = 0x30
      · subst h0
        obtain ⟨n78, n58⟩ := r c1 rest e
        simp only [isHexPrefix, beq_eq_false_iff_ne.mpr n78, beq_eq_false_iff_ne.mpr n58, Bool.or_self,
          Bool.and_false]
      · simp only [isHexPrefix, beq_eq_false_iff_ne.mpr h0, Bool.false_and]
    refine step_decoded h (i := .rawPrefixBin (some (c0, c1))) (c := .prefix16 (some (prefixCode c0 c1))) ?_ ?_
    · simp [State.seqCode, q, e, prefixOf]
    · simp [decode, decodePrefix_bin c0 c1 hp]

/-- A legal character of the literal (42 R143 to R149). -/
theorem step_char_legal (h : s.running) (q : s.seq = .literal) {ch : Byte} {bits : BitSeq}
    (r : s.rawChars[s.k]? = some ch) (b : charBits true s.hexmode ch = some bits)
    (fits : s.data.length ≤ Config.dataCap) : step s = s.appendChar bits := by
  rw [step_decoded h (c := .litchar9 (litCode s.hexmode ch)) (by simp [State.seqCode, q, r]) rfl]
  exact exec_of_litBits_legal (by rw [show Config.hexLowerOk = true from rfl, litBits_decode, b]) fits

/-- An illegal character of the literal (42 R147, R150). -/
theorem step_char_illegal (h : s.running) (q : s.seq = .literal) {ch : Byte}
    (r : s.rawChars[s.k]? = some ch) (b : charBits true s.hexmode ch = none) :
    step s = .next (s.raiseFatal .rawChar) := by
  rw [step_decoded h (c := .litchar9 (litCode s.hexmode ch)) (by simp [State.seqCode, q, r]) rfl]
  exact exec_of_litBits_illegal (by rw [show Config.hexLowerOk = true from rfl, litBits_decode, b])

/-- The end of the literal (42 R141). -/
theorem step_literal_end (h : s.running) (q : s.seq = .literal) (r : s.rawChars[s.k]? = none) :
    step s = .next { s with seq := .stage .par } := by
  rw [step_between h (by simp [State.seqCode, q, r])]
  rcases h with h | h <;> simp [State.sequence, h, q, Config.emptyDataOk, endBuild_true]

theorem step_resolve (h : s.running) (q : s.seq = .fstep .resolve) : step s = execFieldResolve s :=
  step_decoded h (i := .fieldResolve) (by simp [State.seqCode, q]; rfl) rfl

theorem step_range (h : s.running) (q : s.seq = .fstep .range) : step s = execFieldRange s :=
  step_decoded h (i := .fieldRange) (by simp [State.seqCode, q]; rfl) rfl

theorem step_compose (h : s.running) (q : s.seq = .fstep .compose) : step s = execFieldCompose s :=
  step_decoded h (i := .fieldCompose) (by simp [State.seqCode, q]; rfl) rfl

theorem step_pad (h : s.running) (q : s.seq = .fstep .pad) : step s = execFieldPad s :=
  step_decoded h (i := .fieldPad) (by simp [State.seqCode, q]; rfl) rfl

/-- FMT.ILL without a preset acts as the shared operation does (42 R154). -/
theorem execFmtIll_eq {id : BitVec 8} (h : preset id = none) : execFmtIll id s = s.takePreset id := by
  simp [execFmtIll, State.takePreset, h]

theorem preset_none {id : BitVec 8} (h : id ∉ formatIds) : preset id = none := by
  revert id; decide

/-- Whatever FORMAT holds, its operation takes the preset or fails for want of one (42 R152, R154). -/
theorem exec_format (id : BitVec 8) : exec (decodeFormat id) s = s.takePreset id := by
  by_cases h : id ∈ formatIds
  · simp only [formatIds, List.mem_cons, List.not_mem_nil, or_false] at h
    rcases h with rfl | rfl | rfl | rfl | rfl <;> rfl
  · rw [decodeFormat_ill id h]
    exact execFmtIll_eq (preset_none h)

theorem step_format (h : s.running) (q : s.seq = .format) : step s = s.takePreset s.cr.format := by
  rw [step_decoded h (c := .fmtid8 s.cr.format) (by simp [State.seqCode, q]) rfl, exec_format]

/-! ### The parity encoder -/

/-- Whatever PARITY holds, its operation writes the frame of that mode (43 R170). -/
theorem exec_parity (sel : BitVec 2) : exec (decodeParity sel) s = s.writeFrame (frameOfData sel s.data) := by
  match sel with
  | 0 => rfl
  | 1 => rfl
  | 2 => rfl
  | 3 => rfl

theorem step_parity (h : s.running) (q : s.seq = .parity) :
    step s = s.writeFrame (frameOfData s.cr.parity s.data) := by
  rw [step_decoded h (c := .parsel2 s.cr.parity) (by simp [State.seqCode, q]) rfl, exec_parity]

/-- No mode adds more than two bits (43 R171 to R174). -/
theorem frameOfData_length (sel : BitVec 2) (d : BitSeq) : (frameOfData sel d).length ≤ d.length + 2 := by
  unfold frameOfData
  split <;> simp [stdFrame]

/-! ### The transmitter -/

theorem step_txReq (h : s.running) (q : s.seq = .txstep .req) : step s = execTxReq s :=
  step_decoded h (i := .txReq) (by simp [State.seqCode, q]; rfl) rfl

theorem step_txInit (h : s.running) (q : s.seq = .txstep .init) : step s = execTxInit s :=
  step_decoded h (i := .txInit) (by simp [State.seqCode, q]; rfl) rfl

theorem step_txSettle (h : s.running) (q : s.seq = .txstep .settle) : step s = execTxSettle s :=
  step_decoded h (i := .txSettle) (by simp [State.seqCode, q]; rfl) rfl

theorem step_txEnd (h : s.running) (q : s.seq = .txstep .terminal) : step s = execTxEnd s :=
  step_decoded h (i := .txEnd) (by simp [State.seqCode, q]; rfl) rfl

theorem step_txRel (h : s.running) (q : s.seq = .txstep .rel) : step s = execTxRel s :=
  step_decoded h (i := .txRel) (by simp [State.seqCode, q]; rfl) rfl

/-- The pulse of the frame bit at I begins on the line that the bit selects (30 R100). -/
theorem step_pulse (h : s.running) (q : s.seq = .txstep .pulse) {b : Bit} (r : s.frame[s.i]? = some b) :
    step s = .next { s with txs := .pulsing s.i, seq := .lineop (.lset1 (lineOf b) .low) } := by
  cases b
  · exact step_decoded h (i := .pulse0) (by simp only [State.seqCode, q, r]; rfl) rfl
  · exact step_decoded h (i := .pulse1) (by simp only [State.seqCode, q, r]; rfl) rfl

/-- After the last frame bit the terminal transition follows (45 R187). -/
theorem step_pulse_end (h : s.running) (q : s.seq = .txstep .pulse) (r : s.frame[s.i]? = none) :
    step s = .next { s with seq := .txstep .terminal } := by
  rw [step_between h (by simp [State.seqCode, q, r])]
  rcases h with h | h <;> simp [State.sequence, h, q, State.goto]

theorem step_lreq (h : s.running) {chip : List Byte} {z o : Nat} (q : s.seq = .lineop (.lreq chip z o)) :
    step s = s.lineRequest :=
  step_decoded h (i := .lreq chip z o) (by simp [State.seqCode, q, LineOp.code]; rfl) rfl

theorem step_lset1 (h : s.running) {a : Line} {v : Level} (q : s.seq = .lineop (.lset1 a v)) :
    step s = s.lineSet a v := by
  refine step_decoded h (i := .lset1 a v) (by simp [State.seqCode, q, LineOp.code]; rfl) ?_
  cases a <;> cases v <;> rfl

theorem step_lsetb (h : s.running) {vz vo : Level} (q : s.seq = .lineop (.lsetb vz vo)) :
    step s = s.lineSetBoth vz vo := by
  refine step_decoded h (i := .lsetb vz vo) (by simp [State.seqCode, q, LineOp.code]; rfl) ?_
  cases vz <;> cases vo <;> rfl

theorem step_lrel (h : s.running) (q : s.seq = .lineop .lrel) : step s = s.lineRelease :=
  step_decoded h (i := .lrel) (by simp [State.seqCode, q, LineOp.code]; rfl) rfl

theorem step_hold (h : s.running) {k : HoldKind} (q : s.seq = .hold k) : step s = .next (s.holdTick k) := by
  rw [step_between h (by simp [State.seqCode, q])]
  rcases h with h | h <;> simp [State.sequence, h, q]

theorem step_finish (h : s.running) (q : s.seq = .finish) : step s = .next s.endRun := by
  rw [step_between h (by simp [State.seqCode, q])]
  rcases h with h | h <;> simp [State.sequence, h, q]

/-! ### The host -/

/-- With no host command nothing happens in READY and in DONE (10 R37). -/
theorem step_host_none (h : s.phase = .ready ∨ s.phase = .done) (e : s.host = []) : step s = .next s := by
  rcases h with h | h <;> simp [step, State.fetch, State.sequence, State.idleReady, State.idleDone, h, e]

end Sys2Proof.Machine
end

