-- ==== Sys2Proof/Laws/Run.lean ====
section
/-! SUPPORT. Runs of several steps with what they show on the line interface, and how they are put together. -/

namespace Sys2Proof.Machine

variable {s t u : State}

theorem run_zero : core.run 0 s = .next s := rfl

/-- A run begins with its first step. -/
theorem run_next (h : step s = .next t) (n : Nat) : core.run (n + 1) s = core.run n t := by
  have h' : core.step s = .next t := h
  simp only [Host.Core.run, h']

theorem events_next (h : step s = .next t) (n : Nat) : events (n + 1) s = s.event.toList ++ events n t := by
  simp only [events, h]

/-- `n` steps lead from `s` to `t` and show `l`. -/
def Runs (n : Nat) (s t : State) (l : List Event) : Prop := core.run n s = .next t ∧ events n s = l

theorem Runs.zero : Runs 0 s s [] := ⟨rfl, rfl⟩

theorem Runs.cons {n : Nat} {l : List Event} (h : step s = .next t) (r : Runs n t u l) :
    Runs (n + 1) s u (s.event.toList ++ l) :=
  ⟨(run_next h n).trans r.1, (events_next h n).trans (by rw [r.2])⟩

/-- A step inside the block. -/
theorem Runs.silent (h : step s = .next t) (e : s.event = none) : Runs 1 s t [] := by
  simpa [e] using Runs.cons h Runs.zero

/-- A step that shows itself on the line interface. -/
theorem Runs.shown {x : Event} (h : step s = .next t) (e : s.event = some x) : Runs 1 s t [x] := by
  simpa [e] using Runs.cons h Runs.zero

/-- A run that has a state after n + 1 steps has a first step. -/
theorem run_succ_next {n : Nat} (h : core.run (n + 1) s = .next u) :
    ∃ t, step s = .next t ∧ core.run n t = .next u := by
  cases e : step s with
  | next t => exact ⟨t, rfl, (run_next e n).symm.trans h⟩
  | fault r =>
    have e' : core.step s = .fault r := e
    simp [Host.Core.run, e'] at h
  | refused r =>
    have e' : core.step s = .refused r := e
    simp [Host.Core.run, e'] at h

theorem Runs.trans {n m : Nat} {l l' : List Event} (h : Runs n s t l) (h' : Runs m t u l') :
    Runs (n + m) s u (l ++ l') := by
  induction n generalizing s l with
  | zero =>
    obtain ⟨a, b⟩ := h
    cases a
    subst b
    simpa [events] using h'
  | succ n ih =>
    obtain ⟨a, b⟩ := h
    obtain ⟨x, hx, hr⟩ := run_succ_next a
    have := Runs.cons hx (ih ⟨hr, rfl⟩)
    rw [events_next hx] at b
    rw [Nat.add_right_comm, ← b, List.append_assoc]
    exact this

/-- A hold of TIMER microseconds: that many ticks, and one step that ends it (45 R199; log 14). -/
theorem hold_runs (n : Nat) {k : HoldKind} (hp : s.phase = .transmitting) (q : s.seq = .hold k) (ht : s.timer = n) :
    Runs (n + 1) s (({ s with timer := 0 } : State).holdDone k) (List.replicate n .tick) := by
  induction n generalizing s with
  | zero =>
    rw [show ({ s with timer := 0 } : State) = s by rw [← ht]]
    exact Runs.silent (by rw [step_hold (.inr hp) q, holdTick_over ht]) (by simp [State.event, hp, q, ht])
  | succ n ih =>
    have h1 : step s = .next { s with timer := s.timer - 1 } := by
      rw [step_hold (.inr hp) q, holdTick_running (by omega)]
    have := Runs.cons h1 (ih hp q (by simp [ht]))
    rwa [show s.event = some .tick by simp [State.event, hp, q, ht]] at this

end Sys2Proof.Machine
end

