-- ==== Sys2Proof/Tests/Slice0.lean ====
section
/-! SUPPORT. The model's own tests: the well-formedness smoke, a word of every row written out bit by bit from the tables
of 30, single steps with the expected value from the vectors of 95 or by hand from the rule named, and for every statement
with hypotheses a witness that meets them. -/

namespace Sys2Proof.Tests

open Sys2Proof.Machine

/-! ### WellFormed refuses an ill-formed term of each check -/

theorem test_wf_prefix_hex_lower_is_no_bin : (Instr.rawPrefixBin (some (0x30, 0x78))).wf = false := by decide
theorem test_wf_prefix_hex_upper_is_no_bin : (Instr.rawPrefixBin (some (0x30, 0x58))).wf = false := by decide
theorem test_wf_prefix_bin : (Instr.rawPrefixBin (some (0x30, 0x62))).wf = true := by decide
theorem test_wf_bin_digit_is_legal : (Instr.binIll 0x30).wf = false := by decide
theorem test_wf_bin_underscore_is_legal : (Instr.binIll 0x5F).wf = false := by decide
theorem test_wf_hex_digit_is_legal : (Instr.hexIll 0x41).wf = false := by decide
theorem test_wf_hex_lower_digit_is_legal : (Instr.hexIll 0x66).wf = false := by decide
theorem test_wf_format_is_supported : (Instr.fmtIll 26).wf = false := by decide
theorem test_wf_one_line_twice : (Instr.lreq [] 5 5).wf = false := by decide

/-! ### Every row of the table, its bits written out (30 R92 to R108; LINEOP2 with the operands of 30 R101) -/

theorem test_decode_cmd1 : decode (.cmd1 0b1) = .ok .start ∧ decode (.cmd1 0b0) = .error .startLow := by decide

theorem test_decode_stage3 :
    decode (.stage3 0b000) = .ok .cfgchk ∧ decode (.stage3 0b001) = .ok .build ∧
    decode (.stage3 0b010) = .ok .par ∧ decode (.stage3 0b011) = .ok .fval ∧
    decode (.stage3 0b100) = .ok .tx ∧ decode (.stage3 0b101) = .error .stageUnused ∧
    decode (.stage3 0b110) = .error .stageUnused ∧ decode (.stage3 0b111) = .error .stageUnused := by decide

theorem test_decode_mode1 : decode (.mode1 0b1) = .ok .buildRaw ∧ decode (.mode1 0b0) = .ok .buildField := by decide

theorem test_decode_prefix16 :
    decode (.prefix16 (some 0b0011000001111000)) = .ok (.rawPrefixHex false) ∧
    decode (.prefix16 (some 0b0011000001011000)) = .ok (.rawPrefixHex true) ∧
    decode (.prefix16 (some 0b0011000101111000)) = .ok (.rawPrefixBin (some (0x31, 0x78))) ∧
    decode (.prefix16 none) = .ok (.rawPrefixBin none) := by decide

theorem test_decode_binary_characters :
    decode (.litchar9 0b000110000) = .ok .bin0 ∧ decode (.litchar9 0b000110001) = .ok .bin1 ∧
    decode (.litchar9 0b000100000) = .ok .binSp ∧ decode (.litchar9 0b001011111) = .ok .binUs ∧
    decode (.litchar9 0b000110010) = .ok (.binIll 0x32) ∧ decode (.litchar9 0b001000001) = .ok (.binIll 0x41) := by
  decide

theorem test_decode_hex_decimal_digits :
    decode (.litchar9 0b100110000) = .ok .hex0 ∧ decode (.litchar9 0b100110001) = .ok .hex1 ∧
    decode (.litchar9 0b100110010) = .ok .hex2 ∧ decode (.litchar9 0b100110011) = .ok .hex3 ∧
    decode (.litchar9 0b100110100) = .ok .hex4 ∧ decode (.litchar9 0b100110101) = .ok .hex5 ∧
    decode (.litchar9 0b100110110) = .ok .hex6 ∧ decode (.litchar9 0b100110111) = .ok .hex7 ∧
    decode (.litchar9 0b100111000) = .ok .hex8 ∧ decode (.litchar9 0b100111001) = .ok .hex9 := by decide

theorem test_decode_hex_upper_digits :
    decode (.litchar9 0b101000001) = .ok .hexUA ∧ decode (.litchar9 0b101000010) = .ok .hexUB ∧
    decode (.litchar9 0b101000011) = .ok .hexUC ∧ decode (.litchar9 0b101000100) = .ok .hexUD ∧
    decode (.litchar9 0b101000101) = .ok .hexUE ∧ decode (.litchar9 0b101000110) = .ok .hexUF := by decide

theorem test_decode_hex_lower_digits :
    decode (.litchar9 0b101100001) = .ok .hexLA ∧ decode (.litchar9 0b101100010) = .ok .hexLB ∧
    decode (.litchar9 0b101100011) = .ok .hexLC ∧ decode (.litchar9 0b101100100) = .ok .hexLD ∧
    decode (.litchar9 0b101100101) = .ok .hexLE ∧ decode (.litchar9 0b101100110) = .ok .hexLF := by decide

/-- The neighbours of the digit ranges: `/`, `:`, `@`, `G`, `` ` ``, `g`, and `_`, a separator in binary mode only. -/
theorem test_decode_hex_illegal :
    decode (.litchar9 0b100101111) = .ok (.hexIll 0x2F) ∧ decode (.litchar9 0b100111010) = .ok (.hexIll 0x3A) ∧
    decode (.litchar9 0b101000000) = .ok (.hexIll 0x40) ∧ decode (.litchar9 0b101000111) = .ok (.hexIll 0x47) ∧
    decode (.litchar9 0b101100000) = .ok (.hexIll 0x60) ∧ decode (.litchar9 0b101100111) = .ok (.hexIll 0x67) ∧
    decode (.litchar9 0b101011111) = .ok (.hexIll 0x5F) := by decide

theorem test_decode_fstep2 :
    decode (.fstep2 0b00) = .ok .fieldResolve ∧ decode (.fstep2 0b01) = .ok .fieldRange ∧
    decode (.fstep2 0b10) = .ok .fieldCompose ∧ decode (.fstep2 0b11) = .ok .fieldPad := by decide

theorem test_decode_fmtid8 :
    decode (.fmtid8 0b00011010) = .ok .fmt26 ∧ decode (.fmtid8 0b00100010) = .ok .fmt34 ∧
    decode (.fmtid8 0b00100011) = .ok .fmt35 ∧ decode (.fmtid8 0b00100101) = .ok .fmt37 ∧
    decode (.fmtid8 0b00110000) = .ok .fmt48 ∧ decode (.fmtid8 0b00011011) = .ok (.fmtIll 27) := by decide

theorem test_decode_parsel2 :
    decode (.parsel2 0b00) = .ok .parNone ∧ decode (.parsel2 0b01) = .ok .parWeven ∧
    decode (.parsel2 0b10) = .ok .parWodd ∧ decode (.parsel2 0b11) = .ok .parStd := by decide

theorem test_decode_txstep3 :
    decode (.txstep3 0b000) = .ok .txReq ∧ decode (.txstep3 0b001) = .ok .txInit ∧
    decode (.txstep3 0b010) = .ok .txSettle ∧ decode (.txstep3 0b011) = .error .pulseWithoutBit ∧
    decode (.txstep3 0b100) = .ok .txEnd ∧ decode (.txstep3 0b101) = .ok .txRel ∧
    decode (.txstep3 0b110) = .error .txStepUnused ∧ decode (.txstep3 0b111) = .error .txStepUnused := by decide

theorem test_decode_pulse4 :
    decode (.pulse4 0b0110) = .ok .pulse0 ∧ decode (.pulse4 0b0111) = .ok .pulse1 ∧
    decode (.pulse4 0b1000) = .error .notPulse := by decide

theorem test_decode_lineop2 :
    decode (.lineop2 0b00 [.str [0x67], .offset 17, .offset 27]) = .ok (.lreq [0x67] 17 27) ∧
    decode (.lineop2 0b01 [.bit 0b0, .bit 0b1]) = .ok (.lset1 .zero .high) ∧
    decode (.lineop2 0b01 [.bit 0b1, .bit 0b0]) = .ok (.lset1 .one .low) ∧
    decode (.lineop2 0b10 [.bit 0b1, .bit 0b0]) = .ok (.lsetb .high .low) ∧
    decode (.lineop2 0b11 []) = .ok .lrel ∧ decode (.lineop2 0b11 [.bit 0b0]) = .error .operands := by decide

/-- The host's words: START before the other formats, the stages, TX.REL, the pulses, a format, two characters (log 16). -/
theorem test_table_words :
    decodeTableWord 8 1 = some .start ∧ decodeTableWord 8 2 = some .par ∧ decodeTableWord 8 5 = some .txRel ∧
    decodeTableWord 8 7 = some .pulse1 ∧ decodeTableWord 8 34 = some .fmt34 ∧
    decodeTableWord 16 0x141 = some .hexUA ∧ decodeTableWord 16 0x3058 = some (.rawPrefixHex true) ∧
    decodeTableWord 32 1 = none := by decide

/-! ### States for the single steps -/

/-- The state after an operation, none where it stops. -/
def after : Result → Option State
  | .next s => some s
  | .fault _ | .refused _ => none

/-- The refusal of an operation. -/
def refusal : Result → Option Refusal
  | .refused r => some r
  | .next _ | .fault _ => none

/-- The fault of an operation. -/
def faultOf : Result → Option Fault
  | .fault f => some f
  | .next _ | .refused _ => none

/-- The configuration that 95 takes where nothing is said: D0 = 17, D1 = 27. -/
def cfg : ConfigRegs := { ConfigRegs.reset with d0 := some 17, d1 := some 27 }

/-- A state of ENCODING at a place of the pipeline. -/
def enc (q : Seq) : State := { State.reset with cr := cfg, phase := .encoding, seq := q }

/-- A state of TRANSMITTING at a place of the pipeline. -/
def trans (q : Seq) : State := { State.reset with cr := cfg, phase := .transmitting, seq := q }

/-- A state whose lines are owned and whose controller answers as said. -/
def owning (q : Seq) (l : List Answer) : State := { trans q with owned := true, answers := l }

/-- A literal as it stands in CR.RAW. -/
def withRaw (s : State) (l : List Byte) : State := { s with cr := { s.cr with raw := some l } }

/-- READY with one host command. -/
def ready (c : HostCommand) : State := { State.reset with cr := cfg, host := [c] }

/-- DONE after a success, with one host command. -/
def done (c : HostCommand) : State := { State.reset with cr := cfg, phase := .done, exit := some 0, host := [c] }

/-! ### Single steps -/

theorem test_start : (after (step (ready (.command 1)))).map (·.phase) = some .encoding := by decide
theorem test_start_in_done : refusal (step (done (.command 1))) = some .startOutsideReady := by decide
theorem test_host_write : (after (step (ready (.write (.pulseUs 60))))).map (·.cr.pulseUs) = some 60 := by decide
/-- 10 R22: an offset written is present, and D1 is not D0. -/
theorem test_host_write_offset :
    (after (step { State.reset with host := [.write (.d1 0)] })).map (fun s => (s.cr.d0, s.cr.d1)) =
      some (none, some 0) := by decide
theorem test_host_reset : (after (step (done .reset))).map (fun s => (s.phase, s.cr.d0)) = some (.ready, none) := by decide

/-- V1, V4, V5, V9 and V13 of 95. -/
theorem test_cfgchk_refuses :
    (ConfigRegs.check { cfg with d1 := none } = some .lineMissing) ∧
    (ConfigRegs.check { cfg with d0 := some 5, d1 := some 5 } = some .lineSame) ∧
    (ConfigRegs.check { cfg with d0 := some 0, d1 := some 1 } = none) ∧
    (ConfigRegs.check { cfg with pulseUs := 5001, spaceUs := 6000 } = some .pulseRange) ∧
    (ConfigRegs.check { cfg with d0 := some 5, d1 := some 5, pulseUs := 10, spaceUs := 5 } = some .lineSame) := by
  decide

/-- V3 of 95: reset values and START. -/
theorem test_cfgchk_step :
    (after (step { State.reset with phase := .encoding })).map (fun s => (s.phase, s.cause, s.exit)) =
      some (.done, some .lineMissing, some 2) := by decide

/-- 10 R45, 40 R124: the host reads CAUSE beside PHASE and EXIT; here of the run of V3. -/
theorem test_host_view :
    (after (step { State.reset with phase := .encoding })).map (fun s =>
      (s.hostView.phase, s.hostView.exit, s.hostView.cause)) = some (.done, some 2, some .lineMissing) := by decide

theorem test_build : (after (step { enc (.stage .build) with data := [true] })).map (fun s => (s.data, s.mode)) =
    some ([], .field) := by decide
/-- B8 of 95: a literal that is present and empty selects raw mode. -/
theorem test_build_empty_literal : (after (step (withRaw (enc (.stage .build)) []))).map (·.mode) = some .raw := by decide
theorem test_build_raw : (after (step (withRaw (enc .mode) []))).map (·.seq) = some .litPrefix := by decide
theorem test_build_field : (after (step (enc .mode))).map (·.seq) = some (.fstep .resolve) := by decide

/-- H2 of 95: `0X`. -/
theorem test_prefix_hex :
    (after (step (withRaw (enc .litPrefix) [0x30, 0x58, 0x61]))).map (fun s => (s.hexmode, s.k)) = some (true, 2) := by
  decide
/-- B5 of 95: `0`, one character only. -/
theorem test_prefix_one_character :
    (after (step (withRaw { enc .litPrefix with hexmode := true, k := 1 } [0x30]))).map (fun s => (s.hexmode, s.k)) =
      some (false, 0) := by decide

theorem test_bin0 : (after (exec .bin0 { enc .literal with data := [true] })).map (fun s => (s.data, s.k)) =
    some ([true, false], 1) := by decide
theorem test_bin1 : (after (exec .bin1 { enc .literal with data := [false] })).map (·.data) = some [false, true] := by
  decide
theorem test_bin_sp : (after (exec .binSp { enc .literal with data := [true], k := 4 })).map (fun s => (s.data, s.k)) =
    some ([true], 5) := by decide
theorem test_bin_us : (after (exec .binUs { enc .literal with data := [true], k := 4 })).map (fun s => (s.data, s.k)) =
    some ([true], 5) := by decide
/-- B10 of 95: TAB. The cursor stays. -/
theorem test_bin_ill : (after (exec (.binIll 0x09) { enc .literal with k := 4 })).map (fun s => (s.cause, s.k)) =
    some (some .rawChar, 4) := by decide
theorem test_hex_ill : (after (exec (.hexIll 0x47) { enc .literal with k := 2 })).map (fun s => (s.cause, s.k)) =
    some (some .rawChar, 2) := by decide

/-- DATA after one digit behind the bit 1: the sixteen values of 30 R95, as 95 lists them under H13. -/
def digitBits (i : Instr) : Option BitSeq := (after (exec i { enc .literal with data := [true] })).map (·.data)

theorem test_hex_decimal_digits :
    digitBits .hex0 = some [true, false, false, false, false] ∧
    digitBits .hex1 = some [true, false, false, false, true] ∧
    digitBits .hex2 = some [true, false, false, true, false] ∧
    digitBits .hex3 = some [true, false, false, true, true] ∧
    digitBits .hex4 = some [true, false, true, false, false] ∧
    digitBits .hex5 = some [true, false, true, false, true] ∧
    digitBits .hex6 = some [true, false, true, true, false] ∧
    digitBits .hex7 = some [true, false, true, true, true] ∧
    digitBits .hex8 = some [true, true, false, false, false] ∧
    digitBits .hex9 = some [true, true, false, false, true] := by decide

theorem test_hex_upper_digits :
    digitBits .hexUA = some [true, true, false, true, false] ∧
    digitBits .hexUB = some [true, true, false, true, true] ∧
    digitBits .hexUC = some [true, true, true, false, false] ∧
    digitBits .hexUD = some [true, true, true, false, true] ∧
    digitBits .hexUE = some [true, true, true, true, false] ∧
    digitBits .hexUF = some [true, true, true, true, true] := by decide

theorem test_hex_lower_digits :
    digitBits .hexLA = some [true, true, false, true, false] ∧
    digitBits .hexLB = some [true, true, false, true, true] ∧
    digitBits .hexLC = some [true, true, true, false, false] ∧
    digitBits .hexLD = some [true, true, true, false, true] ∧
    digitBits .hexLE = some [true, true, true, true, false] ∧
    digitBits .hexLF = some [true, true, true, true, true] := by decide

/-- B14 and B15 of 95: the 512th bit fits, the 513th does not. -/
theorem test_capacity :
    (after (exec .bin1 { enc .literal with data := List.replicate 511 true })).map (·.cause) = some none ∧
    (after (exec .bin1 { enc .literal with data := List.replicate 512 true })).map (·.cause) = some (some .capacity) := by
  decide +kernel

/-- W9 and W10 of 95. -/
theorem test_resolve :
    (after (exec .fieldResolve { enc (.fstep .resolve) with
      cr := { cfg with facilityBits := some 4, cardBits := some 5 } })).map (fun s => (s.fb, s.cb)) = some (4, 5) ∧
    (after (exec .fieldResolve { enc (.fstep .resolve) with
      cr := { cfg with facilityBits := some 4 } })).map (·.seq) = some .format := by decide

/-- W1 to W5 of 95. -/
theorem test_presets :
    (after (exec .fmt26 (enc .format))).map (fun s => (s.fb, s.cb)) = some (8, 16) ∧
    (after (exec .fmt34 (enc .format))).map (fun s => (s.fb, s.cb)) = some (16, 16) ∧
    (after (exec .fmt35 (enc .format))).map (fun s => (s.fb, s.cb)) = some (19, 16) ∧
    (after (exec .fmt37 (enc .format))).map (fun s => (s.fb, s.cb)) = some (18, 16) ∧
    (after (exec .fmt48 (enc .format))).map (fun s => (s.fb, s.cb)) = some (16, 30) := by decide

/-- W11 and W12 of 95: an override with a preset. -/
theorem test_preset_and_override :
    (after (exec .fmt26 { enc .format with cr := { cfg with facilityBits := some 4 } })).map (fun s => (s.fb, s.cb)) =
      some (4, 16) ∧
    (after (exec .fmt48 { enc .format with cr := { cfg with cardBits := some 8 } })).map (fun s => (s.fb, s.cb)) =
      some (16, 8) := by decide

/-- W6 of 95. -/
theorem test_fmt_ill : (after (exec (.fmtIll 27) (enc .format))).map (·.cause) = some (some .format) := by decide

/-- S4 of 95: 2^8 - 1 fits 8 bits, 2^8 does not. -/
theorem test_range :
    (after (exec .fieldRange { enc (.fstep .range) with fb := 8, cb := 1, cr := { cfg with facility := 255 } })).map
      (·.cause) = some none ∧
    (after (exec .fieldRange { enc (.fstep .range) with fb := 8, cb := 1, cr := { cfg with facility := 256 } })).map
      (·.cause) = some (some .fieldRange) := by decide

/-- S3 of 95: facility 5 in 8 bits, then card 1234 in 16, most significant bit first. -/
theorem test_compose :
    (after (exec .fieldCompose { enc (.fstep .compose) with
      fb := 8, cb := 16, cr := { cfg with facility := 5, card := 1234 } })).map (·.data) =
    some ([false, false, false, false, false, true, false, true] ++
      [false, false, false, false, false, true, false, false, true, true, false, true, false, false, true, false]) := by
  decide

/-- 42 R157: the zeros stand to the left; under Standard parity there is no padding. -/
theorem test_pad :
    (after (exec .fieldPad { enc (.fstep .pad) with
      data := [true, true], cr := { cfg with parity := 0, frameBits := some 4 } })).map (·.data) =
      some [false, false, true, true] ∧
    (after (exec .fieldPad { enc (.fstep .pad) with
      data := [true, true], cr := { cfg with parity := 3, frameBits := some 4 } })).map (·.data) =
      some [true, true] := by decide

theorem test_par : (after (exec .par { enc (.stage .par) with frame := [true] })).map (fun s => (s.frame, s.seq)) =
    some ([], .parity) := by decide
theorem test_par_none : (after (exec .parNone { enc .parity with data := [true, false] })).map (·.frame) =
    some [true, false] := by decide
/-- 43 R172: an even count appends 1, an odd count 0. -/
theorem test_par_weven :
    (after (exec .parWeven { enc .parity with data := [true, true] })).map (·.frame) = some [true, true, true] ∧
    (after (exec .parWeven { enc .parity with data := [true, false] })).map (·.frame) = some [true, false, false] := by
  decide
/-- 43 R173: an even count appends 0, an odd count 1. -/
theorem test_par_wodd :
    (after (exec .parWodd { enc .parity with data := [true, true] })).map (·.frame) = some [true, true, false] ∧
    (after (exec .parWodd { enc .parity with data := [true, false] })).map (·.frame) = some [true, false, true] := by
  decide
/-- 43 R174 on 100: left block 1 (odd: leading 0), right block 00 (even: trailing 0). -/
theorem test_par_std_odd_length :
    (after (exec .parStd { enc .parity with data := [true, false, false] })).map (·.frame) =
      some [false, true, false, false, false] := by decide
/-- 43 R174 on 0001: left block 00 (even: leading 1), right block 01 (odd: trailing 1). -/
theorem test_par_std :
    (after (exec .parStd { enc .parity with data := [false, false, false, true] })).map (·.frame) =
      some [true, false, false, false, true, true] := by decide

/-- I3 and I4 of 95: eight bits against the expectations 12 and 8. -/
theorem test_fval :
    (after (exec .fval { enc (.stage .fval) with
      frame := List.replicate 8 true, cr := { cfg with frameBits := some 12 } })).map (·.cause) = some (some .frameLen) ∧
    (after (exec .fval { enc (.stage .fval) with
      frame := List.replicate 8 true, cr := { cfg with frameBits := some 8 } })).map (·.seq) = some (.stage .tx) := by
  decide

theorem test_tx : (after (exec .tx { enc (.stage .tx) with stepIx := 9 })).map (fun s => (s.phase, s.stepIx)) =
    some (.transmitting, 0) := by decide
theorem test_tx_req : (after (exec .txReq (trans (.txstep .req)))).map (fun s => (s.txs, s.seq)) =
    some (.idle, .lineop (.lreq [0x67, 0x70, 0x69, 0x6F, 0x63, 0x68, 0x69, 0x70, 0x30] 17 27)) := by decide
theorem test_tx_req_unnamed : faultOf (exec .txReq { State.reset with phase := .transmitting }) = some .lineUnnamed := by
  decide
theorem test_tx_init : (after (exec .txInit (trans (.txstep .init)))).map (·.seq) =
    some (.lineop (.lsetb .high .high)) := by decide
theorem test_tx_settle : (after (exec .txSettle (trans (.txstep .settle)))).map (fun s => (s.timer, s.seq)) =
    some (2000, .hold .settle) := by decide
theorem test_pulse0 :
    (after (step { trans (.txstep .pulse) with frame := [true, false], i := 1 })).map (fun s => (s.txs, s.seq)) =
      some (.pulsing 1, .lineop (.lset1 .zero .low)) := by decide
theorem test_pulse1 :
    (after (step { trans (.txstep .pulse) with frame := [true, false], i := 0 })).map (fun s => (s.txs, s.seq)) =
      some (.pulsing 0, .lineop (.lset1 .one .low)) := by decide
theorem test_pulses_end : (after (step { trans (.txstep .pulse) with frame := [true], i := 1 })).map (·.seq) =
    some (.txstep .terminal) := by decide
theorem test_tx_end : (after (exec .txEnd (trans (.txstep .terminal)))).map (·.seq) =
    some (.lineop (.lsetb .high .high)) := by decide
theorem test_tx_rel : (after (exec .txRel (trans (.txstep .rel)))).map (·.seq) = some (.lineop .lrel) := by decide

theorem test_lreq_ok :
    (after (exec (.lreq [] 17 27) { trans (.lineop (.lreq [] 17 27)) with answers := [.ok], lvl0 := .low })).map
      (fun s => (s.owned, s.lvl0, s.lvl1, s.stepIx)) = some (true, .high, .high, 1) := by decide
theorem test_lreq_fail :
    (after (exec (.lreq [] 17 27) { trans (.lineop (.lreq [] 17 27)) with answers := [.fail], lvl0 := .low })).map
      (fun s => (s.owned, s.lvl0, s.cause, s.phase)) = some (false, .low, some .lineRequest, .done) := by decide
theorem test_lset1_ok :
    (after (exec (.lset1 .one .low) (owning (.lineop (.lset1 .one .low)) [.ok]))).map
      (fun s => (s.lvl0, s.lvl1, s.timer)) = some (.high, .low, 50) := by decide
theorem test_lset1_fail :
    (after (exec (.lset1 .one .low) (owning (.lineop (.lset1 .one .low)) [.fail]))).map
      (fun s => (s.lvl0, s.cause, s.exit)) = some (.high, some .lineSet, some 2) := by decide
theorem test_lsetb_ok :
    (after (exec (.lsetb .high .high) { owning (.lineop (.lsetb .high .high)) [.ok] with stepIx := 1 })).map
      (fun s => (s.seq, s.stepIx)) = some (.txstep .settle, 2) := by decide
theorem test_lsetb_fail :
    (after (exec (.lsetb .high .high) (owning (.lineop (.lsetb .high .high)) [.fail]))).map (·.cause) =
      some (some .lineSet) := by decide
theorem test_lsets_unowned :
    faultOf (exec (.lset1 .zero .low) (trans .finish)) = some .lineNotOwned ∧
    faultOf (exec (.lsetb .high .high) (trans .finish)) = some .lineNotOwned := by decide
theorem test_lrel_ok : (after (exec .lrel (owning (.lineop .lrel) [.ok]))).map (fun s => (s.owned, s.txs, s.seq)) =
    some (false, .settled, .finish) := by decide
theorem test_lrel_fail : (after (exec .lrel (owning (.lineop .lrel) [.fail]))).map (fun s => (s.cause, s.txs)) =
    some (some .lineRelease, .off) := by decide

theorem test_hold_tick : (after (step { owning (.hold .space) [] with timer := 3 })).map (·.timer) = some 2 := by decide
theorem test_hold_over : (after (step { owning (.hold .space) [] with i := 4 })).map (fun s => (s.i, s.seq)) =
    some (5, .txstep .pulse) := by decide
theorem test_end_of_run : (after (step (trans .finish))).map (fun s => (s.phase, s.exit, s.diag)) =
    some (.done, some 0, []) := by decide

/-- The host's entry: the word stored is the word the next step runs. -/
theorem test_with_fetch_word :
    (after (step (State.reset.withFetchWord 8 1))).map (·.phase) = some .encoding ∧
    (after (step (State.reset.withFetchWord 16 0x141))).map (·.data) = some [true, false, true, false] ∧
    (after (step (State.reset.withFetchWord 8 34))).map (·.fb) = some 16 ∧
    (after (step (State.reset.withFetchWord 8 7))).map (·.seq) = some (.lineop (.lset1 .one .low)) := by decide

/-! ### Witnesses: for every statement with hypotheses, states and operands that meet them; for a statement with clauses,
one for each clause, at the ends of its range -/

theorem witness_DecodingUndoesEncoding :
    (Instr.rawPrefixBin (some (0x30, 0x79))).wf = true ∧ (Instr.binIll 0x2F).wf = true ∧
    (Instr.hexIll 0xFF).wf = true ∧ (Instr.fmtIll 255).wf = true ∧ (Instr.lreq [] 0 1).wf = true ∧
    Instr.hexLA.wf = true := by decide

theorem witness_EncodingUndoesDecoding :
    decode (.prefix16 (some 0xFFFF)) = .ok (.rawPrefixBin (some (0xFF, 0xFF))) ∧
    decode (.lineop2 0 [.str [], .offset 3, .offset 4]) = .ok (.lreq [] 3 4) ∧
    (∀ chip z, Instr.lreq [] 3 4 ≠ .lreq chip z z) := by
  refine ⟨by decide, by decide, fun chip z h => ?_⟩
  injection h with _ h3 h4
  omega

theorem witness_SequencerProducesOnlyListedCodes :
    (ready (.command 0)).fetch = some (.cmd1 0) ∧ (enc .format).fetch = some (.fmtid8 26) := by decide

theorem witness_StepRunsDecodedOperation :
    (enc .format).fetch = some (.fmtid8 26) ∧ decode (.fmtid8 26) = .ok .fmt26 ∧ (enc .format).phase = .encoding ∧
    (trans (.txstep .rel)).fetch = some (.txstep3 5) ∧ decode (.txstep3 5) = .ok .txRel ∧
    (trans (.txstep .rel)).phase = .transmitting ∧
    (ready (.command 1)).fetch = some (.cmd1 1) ∧ decode (.cmd1 1) = .ok .start ∧ (ready (.command 1)).phase = .ready ∧
    (done (.command 1)).fetch = some (.cmd1 1) ∧ (done (.command 1)).phase = .done := by decide

theorem witness_PlacedCodeIsFetched : (Instr.lreq [0x67] 17 27).wf = true := by decide

theorem witness_StartBeginsRun :
    State.reset.phase = .ready ∧ (done .reset).phase ≠ .ready ∧ (enc .mode).phase ≠ .ready := by decide

theorem witness_HostCommandsInReady :
    (∀ w, (ready (.write w)).phase = .ready ∧ (ready (.write w)).host = [.write w]) ∧
    (ready (.command 1)).host = [.command 1] ∧ (ready (.command 0)).host = [.command 0] ∧
    (ready .reset).host = [.reset] ∧ State.reset.host = [] ∧ State.reset.phase = .ready :=
  ⟨fun _ => ⟨rfl, rfl⟩, rfl, rfl, rfl, rfl, rfl⟩

theorem witness_DoneIsFinalUntilReset :
    (done .reset).phase = .done ∧ (done .reset).host = [.reset] ∧ (done (.command 0)).host = [.command 0] ∧
    (done (.command 1)).host = [.command 1] ∧ (done (.write (.card 3))).host = [.write (.card 3)] ∧
    ({ done .reset with host := [] } : State).host = [] := by decide

theorem witness_ConfigurationFrozenInRun :
    (enc (.stage .cfgchk)).phase = .encoding ∧ step (enc (.stage .cfgchk)) = .next (enc (.stage .build)) ∧
    (trans (.txstep .rel)).phase = .transmitting ∧
    step (trans (.txstep .rel)) = .next (trans (.lineop .lrel)) := ⟨rfl, rfl, rfl, rfl⟩

/-- One step for each way the phase can change. -/
theorem witness_PhasesFollowInOrder :
    (after (step (ready (.command 1)))).map (·.phase) = some .encoding ∧
    (after (step (enc (.stage .tx)))).map (·.phase) = some .transmitting ∧
    (after (step { enc (.stage .cfgchk) with cr := ConfigRegs.reset })).map (·.phase) = some .done ∧
    (after (step (trans .finish))).map (·.phase) = some .done ∧
    (after (step (done .reset))).map (·.phase) = some .ready := by decide

theorem witness_RunEndsBySuccessOrFatalError :
    (trans .finish).phase = .transmitting ∧ (after (step (trans .finish))).map (·.phase) = some .done ∧
    (enc .parity).phase = .encoding ∧
    (after (step { enc (.stage .cfgchk) with cr := ConfigRegs.reset })).map (·.phase) = some .done := by decide

theorem witness_LinePresenceIsChecked :
    State.reset.cr.d0 = none ∧ ({ cfg with d1 := none } : ConfigRegs).d1 = none ∧
    ¬ ((enc .mode).cr.d0 = none ∨ (enc .mode).cr.d1 = none) := by decide

/-- The values at which the clauses meet: 19, 20, 5000 and 5001, and a spacing one below and at the pulse. -/
theorem witness_ConfigurationChecks :
    State.reset.cr.d0 = none ∧ cfg.d0 = some 17 ∧ cfg.d1 = some 27 ∧ (17 : Nat) ≠ 27 ∧
    ({ cfg with d1 := some 17 } : ConfigRegs).d1 = cfg.d0 ∧
    ({ cfg with pulseUs := 19 } : ConfigRegs).pulseUs < 20 ∧ 5000 < ({ cfg with pulseUs := 5001 } : ConfigRegs).pulseUs ∧
    (20 ≤ ({ cfg with pulseUs := 20, spaceUs := 19 } : ConfigRegs).pulseUs ∧
      ({ cfg with pulseUs := 20, spaceUs := 19 } : ConfigRegs).spaceUs < 20) ∧
    (({ cfg with pulseUs := 5000, spaceUs := 5000 } : ConfigRegs).pulseUs ≤ 5000 ∧
      5000 ≤ ({ cfg with pulseUs := 5000, spaceUs := 5000 } : ConfigRegs).spaceUs) := by decide

theorem witness_BuildSelectsMode :
    (enc .mode).phase = .encoding ∧ (enc .mode).seq = .mode ∧ (enc .mode).cr.raw = none ∧
    (withRaw (enc .mode) []).cr.raw.isSome ∧ (withRaw (enc .mode) []).phase = .encoding ∧
    (withRaw (enc .mode) []).seq = .mode := by decide

theorem witness_HexPrefixIsRecognised :
    (withRaw (enc .litPrefix) [0x30, 0x78]).phase = .encoding ∧ (withRaw (enc .litPrefix) [0x30, 0x78]).seq = .litPrefix ∧
    (∃ rest, (withRaw (enc .litPrefix) [0x30, 0x78]).rawChars = 0x30 :: 0x78 :: rest ∨
      (withRaw (enc .litPrefix) [0x30, 0x78]).rawChars = 0x30 :: 0x58 :: rest) ∧
    (∃ rest, (withRaw (enc .litPrefix) [0x30, 0x58, 0x30]).rawChars = 0x30 :: 0x78 :: rest ∨
      (withRaw (enc .litPrefix) [0x30, 0x58, 0x30]).rawChars = 0x30 :: 0x58 :: rest) ∧
    (¬ ∃ rest, (withRaw (enc .litPrefix) [0x30]).rawChars = 0x30 :: 0x78 :: rest ∨
      (withRaw (enc .litPrefix) [0x30]).rawChars = 0x30 :: 0x58 :: rest) :=
  ⟨rfl, rfl, ⟨[], .inl rfl⟩, ⟨[0x30], .inr rfl⟩, by rintro ⟨rest, h | h⟩ <;> simp [withRaw, State.rawChars] at h⟩

/-- DATA of a given length. -/
def withData (s : State) (n : Nat) : State := { s with data := List.replicate n true }

theorem withData_length (s : State) (n : Nat) : (withData s n).data.length = n := List.length_replicate

theorem witness_BinaryDigitsAppendOneBit :
    (withData (enc .literal) 511).data.length < 512 ∧ 512 ≤ (withData (enc .literal) 512).data.length := by
  simp only [withData_length]; omega

/-- In binary mode `/` is next to `0`; in hex mode `/`, `:`, `@`, `G`, the back quote and `g` are next to the digits. -/
theorem witness_IllegalCharactersEndTheRun :
    (withRaw (enc .literal) [0x2F]).phase = .encoding ∧ (withRaw (enc .literal) [0x2F]).seq = .literal ∧
    (withRaw (enc .literal) [0x2F]).rawChars[(withRaw (enc .literal) [0x2F]).k]? = some 0x2F ∧
    (withRaw (enc .literal) [0x2F]).hexmode = false ∧ (0x2F : Byte) ∉ ([0x30, 0x31, 0x20, 0x5F] : List Byte) ∧
    ({ withRaw (enc .literal) [0x2F] with hexmode := true } : State).hexmode = true ∧
    (∀ ch ∈ ([0x2F, 0x3A, 0x40, 0x47, 0x60, 0x67] : List Byte),
      ¬ (0x30 ≤ ch.toNat ∧ ch.toNat ≤ 0x39 ∨ 0x41 ≤ ch.toNat ∧ ch.toNat ≤ 0x46 ∨
        0x61 ≤ ch.toNat ∧ ch.toNat ≤ 0x66)) := by decide

theorem witness_HexDigitsAppendFourBits :
    (withData (enc .literal) 508).data.length + 4 ≤ 512 ∧ 512 < (withData (enc .literal) 509).data.length + 4 := by
  simp only [withData_length]; omega

theorem witness_ResolveTakesOverridesOrFormat :
    ({ cfg with facilityBits := some 0, cardBits := some 600 } : ConfigRegs).facilityBits = some 0 ∧
    ({ cfg with facilityBits := some 0, cardBits := some 600 } : ConfigRegs).cardBits = some 600 ∧
    ({ cfg with facilityBits := some 4 } : ConfigRegs).cardBits = none ∧ cfg.facilityBits = none := by decide

theorem witness_UnsupportedFormatIsFatalWhenNeeded :
    cfg.facilityBits = none ∧ ({ cfg with facilityBits := some 4 } : ConfigRegs).cardBits = none ∧
    ({ cfg with facilityBits := some 4, cardBits := some 4 } : ConfigRegs).facilityBits ≠ none ∧
    ({ cfg with facilityBits := some 4, cardBits := some 4 } : ConfigRegs).cardBits ≠ none ∧
    (27 : BitVec 8) ∉ ([26, 34, 35, 37, 48] : List (BitVec 8)) := by decide

/-- A state of field mode with widths and values. -/
def fields (fb cb facility card : Nat) : State :=
  { enc (.fstep .range) with fb := fb, cb := cb, cr := { cfg with facility := facility, card := card } }

/-- 2^8 - 1 fits 8 bits and 2^8 does not; 0 fits no bits. -/
theorem witness_FieldValuesMustFitWidths :
    ((fields 8 0 255 0).cr.facility < 2 ^ (fields 8 0 255 0).fb ∧ (fields 8 0 255 0).cr.card < 2 ^ (fields 8 0 255 0).cb) ∧
    2 ^ (fields 8 0 256 0).fb ≤ (fields 8 0 256 0).cr.facility ∧
    2 ^ (fields 8 0 0 1).cb ≤ (fields 8 0 0 1).cr.card := by decide

theorem witness_CompositionIsMsbFirst :
    (fields 256 256 0 0).fb + (fields 256 256 0 0).cb ≤ 512 ∧ 512 < (fields 256 257 0 0).fb + (fields 256 257 0 0).cb := by
  decide

theorem witness_ComposedFieldsReadBack :
    (fields 3 2 5 3).fb + (fields 3 2 5 3).cb ≤ 512 ∧ (fields 3 2 5 3).cr.facility < 2 ^ (fields 3 2 5 3).fb ∧
    (fields 3 2 5 3).cr.card < 2 ^ (fields 3 2 5 3).cb ∧
    exec .fieldCompose (fields 3 2 5 3) =
      .next { fields 3 2 5 3 with data := [true, false, true, true, true], seq := .fstep .pad } :=
  ⟨by decide, by decide, by decide, rfl⟩

/-- FIELD.PAD under None with an expectation: one below DLEN, at DLEN, at 512, at 513. -/
theorem witness_PadExtendsDataOnTheLeft :
    cfg.frameBits = none ∧ ({ cfg with frameBits := some 9 } : ConfigRegs).parity ≠ 0 ∧
    (3 < (withData (enc .mode) 4).data.length) ∧ ((withData (enc .mode) 4).data.length ≤ 4 ∧ 4 ≤ 512) ∧
    ((withData (enc .mode) 4).data.length ≤ 512 ∧ (512 : Nat) ≤ 512) ∧
    ((withData (enc .mode) 4).data.length ≤ 513 ∧ (512 : Nat) < 513) ∧
    ({ cfg with frameBits := some 9, parity := 0 } : ConfigRegs).frameBits = some 9 ∧
    ({ cfg with frameBits := some 9, parity := 0 } : ConfigRegs).parity = 0 := by decide

/-- ENCODING before the parity encoder, with data and a selector. -/
def atParity (sel : BitVec 2) (d : BitSeq) : State := { enc .parity with cr := { cfg with parity := sel }, data := d }

theorem witness_ParitySelectsOneEncoder :
    (atParity 0 []).phase = .encoding ∧ (atParity 0 []).seq = .parity ∧ (atParity 0 []).cr.parity = 0 ∧
    (atParity 1 []).cr.parity = 1 ∧ (atParity 2 []).cr.parity = 2 ∧ (atParity 3 []).cr.parity = 3 := by decide

theorem witness_ParityNoneIsIdentity : (withData (enc .parity) 520).data.length ≤ 520 := by
  simp only [withData_length]; omega

theorem witness_WholeParityAppendsOneBit : (withData (enc .parity) 519).data.length + 1 ≤ 520 := by
  simp only [withData_length]; omega

theorem witness_StandardParityOverHalves : (withData (enc .parity) 518).data.length + 2 ≤ 520 := by
  simp only [withData_length]; omega

theorem witness_ParityEncoderIsInjective :
    (atParity 1 [true]).phase = .encoding ∧ (atParity 1 [true]).seq = .parity ∧ (atParity 1 [true]).data.length ≤ 512 ∧
    step (atParity 1 [true]) =
      .next { atParity 1 [true] with frame := [true, false], seq := .stage .fval } := ⟨rfl, rfl, by decide, rfl⟩

theorem witness_FrameOverflowIsFatal :
    520 < (withData (enc .parity) 521).data.length ∧ 520 < (withData (enc .parity) 520).data.length + 1 ∧
    520 < (withData (enc .parity) 519).data.length + 2 := by
  simp only [withData_length]; omega

theorem witness_GateComparesFrameLength :
    (enc (.stage .fval)).cr.frameBits = none ∧
    ({ cfg with frameBits := some 0 } : ConfigRegs).frameBits = some (enc (.stage .fval)).frame.length ∧
    ({ cfg with frameBits := some 1 } : ConfigRegs).frameBits = some 1 ∧ 1 ≠ (enc (.stage .fval)).frame.length := by
  decide

theorem witness_RequestNamesTheLines :
    cfg.d0 = some 17 ∧ cfg.d1 = some 27 ∧ ConfigRegs.reset.d0 = none := by decide

theorem witness_FrameBitSelectsPulse :
    ({ trans (.txstep .pulse) with frame := [false, true] } : State).phase = .transmitting ∧
    ({ trans (.txstep .pulse) with frame := [false, true] } : State).seq = .txstep .pulse ∧
    ({ trans (.txstep .pulse) with frame := [false, true] } : State).frame[0]? = some false ∧
    ({ trans (.txstep .pulse) with frame := [false, true], i := 1 } : State).frame[1]? = some true := by decide

/-- Both answers, with and without ownership: RequestGrantsOrFails, SetOneLineDrivesOnlyIt, SetBothLinesIsAtomic and
ReleaseGivesUpOwnership. -/
theorem witness_LineOperations :
    (owning .finish [.ok]).answer = .ok ∧ (owning .finish [.fail]).answer = .fail ∧
    (owning .finish [.ok]).owned = true ∧ (trans .finish).owned = false := by decide

theorem witness_HoldChangesOnlyTimer :
    (trans (.hold .settle)).phase = .transmitting ∧ (trans (.hold .settle)).seq = .hold .settle ∧
    (trans (.hold .settle)).timer = 0 ∧ 2000 ≤ ({ trans (.hold .settle) with timer := 2000 } : State).timer := by decide

/-- The transmitter before frame bit 0 of `f`, its next answers `l`. -/
def beforePulse (f : BitSeq) (l : List Answer) : State :=
  { owning (.txstep .pulse) l with frame := f, txs := .idle, stepIx := 3 }

theorem witness_PulseTakesLowThenSpacing :
    (beforePulse [true] [.ok, .ok]).phase = .transmitting ∧ (beforePulse [true] [.ok, .ok]).seq = .txstep .pulse ∧
    (beforePulse [true] [.ok, .ok]).frame[(beforePulse [true] [.ok, .ok]).i]? = some true ∧
    (beforePulse [true] [.ok, .ok]).owned = true ∧ (beforePulse [true] [.ok, .ok]).lvl0 = .high ∧
    (beforePulse [true] [.ok, .ok]).lvl1 = .high ∧ (beforePulse [true] [.ok, .ok]).answers = .ok :: .ok :: [] := by
  decide

/-- In the low time of frame bit 0, which is 1: the one-line is low. -/
def lowTime : State :=
  { owning (.hold (.pulse .one)) [] with frame := [true], txs := .pulsing 0, stepIx := 4, timer := 50, lvl1 := .low }

/-- At the line set that begins frame bit 0. -/
def fallingSet : State :=
  { owning (.lineop (.lset1 .one .low)) [] with frame := [true], txs := .pulsing 0, stepIx := 3 }

theorem gate_of_built {s : State} (hc : s.cr = cfg) (hm : s.mode = .field) : s.gateInv := by
  refine ⟨⟨?_, ?_⟩, ?_⟩
  · rw [hc]; decide
  · rw [hc, hm]; decide
  · rw [hc]; intro e h; cases h

theorem enc_inv : (enc (.stage .cfgchk)).inv := by
  refine ⟨⟨rfl, rfl, rfl⟩, by unfold State.boundsInv; decide, ⟨?_, trivial⟩⟩
  unfold State.linesUntouched; decide

theorem lowTime_inv : lowTime.inv :=
  ⟨⟨rfl, rfl, rfl⟩, by unfold State.boundsInv; decide, gate_of_built rfl rfl, ⟨rfl, rfl, rfl⟩, ⟨rfl, rfl⟩, rfl,
    Nat.le_refl _⟩

theorem fallingSet_inv : fallingSet.inv :=
  ⟨⟨rfl, rfl, rfl⟩, by unfold State.boundsInv; decide, gate_of_built rfl rfl, ⟨rfl, rfl, rfl⟩, ⟨rfl, rfl⟩, rfl, rfl⟩

/-- DONE with a second start command pending. -/
theorem done_inv : (done (.command 1)).inv :=
  ⟨.inl ⟨rfl, rfl, rfl⟩, by unfold State.boundsInv; decide, trivial⟩

theorem witness_StepKeepsInvariant :
    lowTime.inv ∧ step lowTime = .next { lowTime with timer := 49 } := ⟨lowTime_inv, rfl⟩

theorem witness_OnlyTheHostIsRefused :
    (done (.command 1)).inv ∧ step (done (.command 1)) = .refused .startOutsideReady := ⟨done_inv, rfl⟩

theorem witness_NoLineOperationBeforeTheGate :
    (enc (.stage .cfgchk)).inv ∧ (enc (.stage .cfgchk)).phase = .encoding ∧
    step (enc (.stage .cfgchk)) = .next (enc (.stage .build)) := ⟨enc_inv, rfl, rfl⟩

theorem witness_AtMostOneLineLow :
    lowTime.inv ∧ lowTime.phase = .transmitting ∧ lowTime.owned = true ∧ lowTime.level .one = .low :=
  ⟨lowTime_inv, rfl, rfl, rfl⟩

theorem witness_TransmitterStandsAtEntryStep :
    fallingSet.inv ∧ fallingSet.phase = .transmitting ∧ fallingSet.cr.d0 = some 17 ∧ fallingSet.cr.d1 = some 27 ∧
    fallingSet.seq = .lineop (.lset1 .one .low) ∧ lowTime.inv ∧ lowTime.cr.d0 = some 17 ∧ lowTime.cr.d1 = some 27 ∧
    lowTime.seq = .hold (.pulse .one) := ⟨fallingSet_inv, rfl, rfl, rfl, rfl, lowTime_inv, rfl, rfl, rfl⟩

theorem witness_BuffersFrozenInTransmission :
    lowTime.inv ∧ lowTime.phase = .transmitting ∧ step lowTime = .next { lowTime with timer := 49 } :=
  ⟨lowTime_inv, rfl, rfl⟩

/-- Both outcomes: the reset configuration has no frame, an empty literal under None has the empty one (B8 of 95). -/
theorem witness_EncodingComputesTheFrame :
    (enc (.stage .cfgchk)).phase = .encoding ∧ (enc (.stage .cfgchk)).seq = .stage .cfgchk ∧
    ConfigRegs.reset.frameOf = .error .lineMissing ∧
    ({ cfg with raw := some [], parity := 0 } : ConfigRegs).frameOf = .ok [] := ⟨rfl, rfl, rfl, rfl⟩

/-- At the gate's end, a frame of one bit, and as many ok answers as its transmission takes. -/
def beforeTx : State := { enc (.stage .tx) with frame := [true], answers := List.replicate 6 .ok }

theorem witness_TransmissionPerformsTxops :
    beforeTx.phase = .encoding ∧ beforeTx.seq = .stage .tx ∧ beforeTx.cr.d0 = some 17 ∧ beforeTx.cr.d1 = some 27 ∧
    beforeTx.answers = List.replicate (2 * beforeTx.frame.length + 4) .ok ++ [] := by decide

theorem witness_EventsAreABeginningOfTxops :
    beforeTx.phase = .encoding ∧ beforeTx.seq = .stage .tx ∧ beforeTx.host = [] ∧ beforeTx.cr.d0 = some 17 ∧
    beforeTx.cr.d1 = some 27 := by decide

theorem witness_EveryRunEnds :
    (enc (.stage .cfgchk)).inv ∧ (enc (.stage .cfgchk)).phase = .encoding ∧ lowTime.inv ∧
    lowTime.phase = .transmitting := ⟨enc_inv, rfl, lowTime_inv, rfl⟩

theorem witness_RawRunIgnoresFieldRegisters :
    (withRaw (enc (.stage .cfgchk)) [0x31]).phase = .encoding ∧
    (withRaw (enc (.stage .cfgchk)) [0x31]).seq = .stage .cfgchk ∧
    (withRaw (enc (.stage .cfgchk)) [0x31]).cr.raw.isSome ∧ (withRaw (enc (.stage .cfgchk)) [0x31]).host = [] := by
  decide

end Sys2Proof.Tests
end

section
/-! Proofs of the statements about the scope (00): the words of the encoding tables. -/

namespace Sys2Proof.Proofs

open Sys2Proof.Laws

/-- Settles O3: each word is, bit for bit, the encoder's word of its operation, and the round trip of that operation decodes
it. The underscore in hex mode is well formed as HEX.ILL because it is no digit character (30 R94; 92 D12). -/
theorem sampleWordsDecode : Obligations.SampleWordsDecode := by
  unfold Obligations.SampleWordsDecode
  have underscore_no_hex_digit : (Instr.hexIll 0x5F).wf = true := by decide
  exact ⟨RoundTrip.start rfl, RoundTrip.tx rfl, RoundTrip.buildField rfl, RoundTrip.rawPrefixHex true rfl,
    RoundTrip.bin1 rfl, RoundTrip.hexLA rfl, RoundTrip.hexIll 0x5F underscore_no_hex_digit,
    RoundTrip.fieldCompose rfl, RoundTrip.fmt37 rfl, RoundTrip.parWeven rfl, RoundTrip.txRel rfl,
    RoundTrip.pulse1 rfl, RoundTrip.lset1 .one .low rfl⟩

end Sys2Proof.Proofs
end

section
/-! What a step of a run can do, said once for both of its phases, and what the host's commands can do between runs: the
statements about the state (10) cite these and do not unfold a step. -/

namespace Sys2Proof.Machine

variable {s t : State}

/-! ### The places of the pipeline -/

/-- The places that have an operation of the encoding, from CFGCHK to TX (40 R121). -/
def Seq.encodes : Seq → Bool
  | .stage _ | .mode | .litPrefix | .literal | .fstep _ | .format | .parity => true
  | .txstep _ | .lineop _ | .hold _ | .finish => false

theorem encodes_of_encodingInv (h : s.encodingInv) : s.seq.encodes = true := by
  cases q : s.seq with
  | txstep n | lineop op | hold k | finish => simp only [State.encodingInv, q] at h
  | _ => rfl

theorem not_encodes_of_transmittingInv (h : s.transmittingInv) : s.seq.encodes = false := by
  cases q : s.seq with
  | stage n | mode | litPrefix | literal | fstep n | format | parity => simp only [State.transmittingInv, q] at h
  | _ => rfl

/-- The operations of BUILD that write nothing and only hand over, each with the place that follows it (42 R140 to
R157). -/
def handOvers : List (Seq × Seq) :=
  [(.mode, .litPrefix), (.mode, .fstep .resolve), (.literal, .stage .par), (.fstep .resolve, .format),
   (.format, .fstep .range), (.fstep .range, .fstep .compose), (.fstep .pad, .stage .par)]

/-! ### A step of the encoding -/

/-- What a step at a place of the encoding can do: the operation of the place, with the guard it has passed, or a
FatalError. Which of two places is handed over to is in `handOvers` and the cause of a FatalError is left open (40 R121,
41 to 44). -/
inductive EncodeStep (s : State) : State → Prop
  | fatal (c : Cause) : EncodeStep s (s.raiseFatal c)
  | cfgchk (q : s.seq = .stage .cfgchk) (passed : s.cr.check = none) : EncodeStep s { s with seq := .stage .build }
  | build (q : s.seq = .stage .build) :
      EncodeStep s { s with data := [], mode := if s.cr.raw.isSome then .raw else .field, seq := .mode }
  | handOver {p : Seq} (q : (s.seq, p) ∈ handOvers) : EncodeStep s { s with seq := p }
  | literalStart (hex : Bool) (q : s.seq = .litPrefix) (inside : (if hex then 2 else 0) ≤ s.rawChars.length) :
      EncodeStep s { s with hexmode := hex, k := if hex then 2 else 0, seq := .literal }
  | character {ch : Byte} {bits : BitSeq} (q : s.seq = .literal) (char : s.rawChars[s.k]? = some ch)
      (legal : charBits true s.hexmode ch = some bits)
      (fits : s.data.length ≤ Config.dataCap → (s.data ++ bits).length ≤ Config.dataCap) :
      EncodeStep s { s with data := s.data ++ bits, k := s.k + 1, seq := .literal }
  | overrides {a b : Nat} (q : s.seq = .fstep .resolve) (facility : s.cr.facilityBits = some a)
      (card : s.cr.cardBits = some b) : EncodeStep s { s with fb := a, cb := b, seq := .fstep .range }
  | presetWidths {pf pc : Nat} (q : s.seq = .format) (supported : preset s.cr.format = some (pf, pc)) :
      EncodeStep s { s with
        fb := s.cr.facilityBits.getD pf, cb := s.cr.cardBits.getD pc, seq := .fstep .range }
  | compose (q : s.seq = .fstep .compose) (fits : s.fb + s.cb ≤ Config.dataCap) :
      EncodeStep s { s with data := msbFirst s.cr.facility s.fb ++ msbFirst s.cr.card s.cb, seq := .fstep .pad }
  | pad {e : Nat} (q : s.seq = .fstep .pad) (expected : s.cr.frameBits = some e) (long : s.dlen ≤ e)
      (fits : e ≤ Config.dataCap) :
      EncodeStep s { s with data := zeros (e - s.dlen) ++ s.data, seq := .stage .par }
  | par (q : s.seq = .stage .par) : EncodeStep s { s with frame := [], seq := .parity }
  | parity (q : s.seq = .parity) (fits : (frameOfData s.cr.parity s.data).length ≤ Config.frameCap) :
      EncodeStep s { s with frame := frameOfData s.cr.parity s.data, seq := .stage .fval }
  | fval (q : s.seq = .stage .fval) (passed : ∀ e, s.cr.frameBits = some e → e = s.flen) :
      EncodeStep s { s with seq := .stage .tx }
  | tx (q : s.seq = .stage .tx) :
      EncodeStep s { s with phase := .transmitting, stepIx := 0, seq := .txstep .req }

/-- The operation of a legal character appends its bits; a separator only advances K, whatever DATA holds (42 R143 to
R149). -/
theorem exec_legal_character {i : Instr} {bits : BitSeq} (h : litBits i = some (some bits)) :
    exec i s = s.appendChar bits ∨ bits = [] ∧ exec i s = .next s.nextChar := by
  cases i
  case binSp | binUs => exact .inr ⟨by simpa [litBits] using h.symm, rfl⟩
  all_goals
    simp only [litBits, Option.some.injEq, reduceCtorEq] at h <;> subst h <;> exact .inl rfl

/-- At a character of the literal its bits are appended and K advances, or the run ends (42 R143 to R150). -/
theorem encodeStep_character (h : s.running) (q : s.seq = .literal) {ch : Byte} (r : s.rawChars[s.k]? = some ch)
    (hs : step s = .next t) : EncodeStep s t := by
  rw [step_decoded h (c := .litchar9 (litCode s.hexmode ch)) (by simp [State.seqCode, q, r]) rfl] at hs
  have bitsOf := litBits_decode s.hexmode ch
  cases b : charBits true s.hexmode ch with
  | none =>
    cases (exec_of_litBits_illegal (bitsOf.trans (congrArg some b))).symm.trans hs
    exact .fatal _
  | some bits =>
    obtain append | ⟨rfl, skip⟩ := exec_legal_character (s := s) (bitsOf.trans (congrArg some b))
    · obtain ⟨fits, rfl⟩ | ⟨-, rfl⟩ := appendChar_next (append.symm.trans hs)
      · exact .character q r b fun _ => by simpa using fits
      · exact .fatal _
    · cases skip.symm.trans hs
      simpa [State.nextChar] using EncodeStep.character q r b (by simp)

/-- The first two characters set HEXMODE and put K at the first digit (42 R142). -/
theorem encodeStep_litPrefix (h : s.running) (q : s.seq = .litPrefix) (hs : step s = .next t) : EncodeStep s t := by
  by_cases hex : ∃ c1 rest, s.rawChars = 0x30 :: c1 :: rest ∧ (c1 = 0x78 ∨ c1 = 0x58)
  · obtain ⟨c1, rest, chars, c⟩ := hex
    rw [step_prefix_hex h q chars c] at hs
    cases hs; exact .literalStart true q (by simp [chars])
  · rw [step_prefix_bin h q fun c1 rest chars => not_or.mp fun c => hex ⟨c1, rest, chars, c⟩] at hs
    cases hs; exact .literalStart false q (Nat.zero_le _)

/-- FIELD.PAD ends BUILD with DATA as it was or padded within its capacity, or the run ends (42 R157). -/
theorem encodeStep_pad (h : s.running) (q : s.seq = .fstep .pad) (hs : step s = .next t) : EncodeStep s t := by
  simp only [step_pad h q, execFieldPad, Config.emptyDataOk, endBuild_true] at hs
  have unpadded : EncodeStep s { s with seq := .stage .par } := .handOver (by simp [q, handOvers])
  split at hs
  · cases hs; exact unpadded
  next e expected =>
    split at hs
    · cases hs; exact unpadded
    split at hs
    · cases hs; exact .fatal _
    split at hs
    · cases hs; exact .fatal _
    next long fits => cases hs; exact .pad q expected (Nat.not_lt.mp long) (Nat.not_lt.mp fits)

/-- What a step at a sub-step of field mode can do (42 R151). -/
theorem encodeStep_field (h : s.running) {n : FieldStep} (q : s.seq = .fstep n) (hs : step s = .next t) :
    EncodeStep s t := by
  cases n with
  | resolve =>
    rw [step_resolve h q, execFieldResolve] at hs
    split at hs <;> cases hs
    next facility card => exact .overrides q facility card
    · exact .handOver (by simp [q, handOvers])
  | range =>
    rw [step_range h q, execFieldRange] at hs
    split at hs
    · cases hs; exact .fatal _
    split at hs
    · cases hs; exact .fatal _
    · cases hs; exact .handOver (by simp [q, handOvers])
  | compose =>
    rw [step_compose h q] at hs
    obtain ⟨fits, rfl⟩ | ⟨-, rfl⟩ := composeData_next hs
    · exact .compose q fits
    · exact .fatal _
  | pad => exact encodeStep_pad h q hs

/-- What a step at a stage can do (40 R121). -/
theorem encodeStep_stage (h : s.running) {n : Stage} (q : s.seq = .stage n) (hs : step s = .next t) :
    EncodeStep s t := by
  cases n with
  | cfgchk =>
    rw [step_cfgchk h q, execCfgchk] at hs
    split at hs <;> cases hs
    · exact .fatal _
    · exact .cfgchk q ‹_›
  | build => rw [step_build h q] at hs; cases hs; exact .build q
  | par => rw [step_par h q] at hs; cases hs; exact .par q
  | fval =>
    rw [step_fval h q, execFval] at hs
    split at hs
    next absent => cases hs; exact .fval q (by simp [absent])
    next e present =>
      split at hs <;> cases hs
      · exact .fatal _
      next equal => exact .fval q (by simpa [present] using equal)
  | tx => rw [step_tx h q] at hs; cases hs; exact .tx q

/-- A step at a place of the encoding does one of the things that `EncodeStep` lists. -/
theorem encodeStep_of_step (h : s.running) (place : s.seq.encodes = true) (hs : step s = .next t) :
    EncodeStep s t := by
  cases q : s.seq with
  | stage n => exact encodeStep_stage h q hs
  | mode =>
    cases r : s.cr.raw.isSome
    · rw [step_mode_field h q r] at hs; cases hs; exact .handOver (by simp [q, handOvers])
    · rw [step_mode_raw h q r] at hs; cases hs; exact .handOver (by simp [q, handOvers])
  | litPrefix => exact encodeStep_litPrefix h q hs
  | literal =>
    cases r : s.rawChars[s.k]? with
    | none => rw [step_literal_end h q r] at hs; cases hs; exact .handOver (by simp [q, handOvers])
    | some ch => exact encodeStep_character h q r hs
  | fstep n => exact encodeStep_field h q hs
  | format =>
    rw [step_format h q] at hs
    obtain ⟨pf, pc, supported, rfl⟩ | ⟨-, -, rfl⟩ | ⟨-, -, rfl⟩ := takePreset_next hs
    · exact .presetWidths q supported
    · exact .handOver (by simp [q, handOvers])
    · exact .fatal _
  | parity =>
    rw [step_parity h q] at hs
    obtain ⟨fits, rfl⟩ | ⟨-, rfl⟩ := writeFrame_next hs
    · exact .parity q fits
    · exact .fatal _
  | txstep n | lineop op | hold k | finish => simp [q, Seq.encodes] at place

/-! ### A step of the transmission -/

/-- What a step at a place of the transmission can do: the operation of the place with the guard it has passed, the end
of RUN, or the FatalError of a line operation that is answered fail, whose levels and ownership are left open (45 R187,
20 R68 to R72). -/
inductive TransmitStep (s : State) : State → Prop
  | lineFail {op : LineOp} (q : s.seq = .lineop op) (failed : s.answer = .fail) (owned : Bool) (lvl0 lvl1 : Level)
      (c : Cause) : TransmitStep s ({ s.answered with owned := owned, lvl0 := lvl0, lvl1 := lvl1 }.raiseFatal c)
  | req {z o : Nat} (q : s.seq = .txstep .req) (zero : s.lineOffset .zero = some z)
      (one : s.lineOffset .one = some o) :
      TransmitStep s { s with txs := .idle, seq := .lineop (.lreq s.cr.chip z o) }
  | init (q : s.seq = .txstep .init) : TransmitStep s (s.goto (.lineop (.lsetb .high .high)))
  | settle (q : s.seq = .txstep .settle) : TransmitStep s (s.startHold .settle)
  | pulse {b : Bit} (q : s.seq = .txstep .pulse) (bit : s.frame[s.i]? = some b) :
      TransmitStep s { s with txs := .pulsing s.i, seq := .lineop (.lset1 (lineOf b) .low) }
  | pulsesEnd (q : s.seq = .txstep .pulse) (ended : s.frame.length ≤ s.i) :
      TransmitStep s (s.goto (.txstep .terminal))
  | terminal (q : s.seq = .txstep .terminal) : TransmitStep s (s.goto (.lineop (.lsetb .high .high)))
  | rel (q : s.seq = .txstep .rel) : TransmitStep s (s.goto (.lineop .lrel))
  | lreq {chip : List Byte} {z o : Nat} (q : s.seq = .lineop (.lreq chip z o)) :
      TransmitStep s { s.answered with
        owned := true, lvl0 := .high, lvl1 := .high, stepIx := s.stepIx + 1, seq := .txstep .init }
  | lset1 {a : Line} {v : Level} (q : s.seq = .lineop (.lset1 a v)) (owned : s.owned = true) :
      TransmitStep s { s.answered with
        lvl0 := if a = .zero then v else s.lvl0, lvl1 := if a = .one then v else s.lvl1, stepIx := s.stepIx + 1,
        timer := s.holdUs (holdAfter a v), seq := .hold (holdAfter a v) }
  | lsetb {vz vo : Level} (q : s.seq = .lineop (.lsetb vz vo)) (owned : s.owned = true) :
      TransmitStep s { s.answered with
        lvl0 := vz, lvl1 := vo, stepIx := s.stepIx + 1, seq := .txstep (if s.stepIx = 1 then .settle else .rel) }
  | lrel (q : s.seq = .lineop .lrel) :
      TransmitStep s { s.answered with owned := false, txs := .settled, stepIx := s.stepIx + 1, seq := .finish }
  | tick {k : HoldKind} (q : s.seq = .hold k) (runs : s.timer ≠ 0) :
      TransmitStep s { s with timer := s.timer - 1 }
  | holdEnd {k : HoldKind} (q : s.seq = .hold k) (ended : s.timer = 0) : TransmitStep s (s.holdDone k)
  | finish (q : s.seq = .finish) : TransmitStep s s.endRun

/-- A line operation is done as its rule says, or it is answered fail and ends the run (20 R68 to R72). -/
theorem transmitStep_lineop (h : s.running) {op : LineOp} (q : s.seq = .lineop op) (hs : step s = .next t) :
    TransmitStep s t := by
  cases op with
  | lreq chip z o =>
    rw [step_lreq h q] at hs
    obtain ⟨-, rfl⟩ | ⟨failed, rfl⟩ := lineRequest_next hs
    · exact .lreq q
    · exact .lineFail q failed false s.lvl0 s.lvl1 .lineRequest
  | lset1 a v =>
    rw [step_lset1 h q] at hs
    obtain ⟨owned, ⟨-, rfl⟩ | ⟨failed, rfl⟩⟩ := lineSet_next hs
    · cases a <;> exact .lset1 q owned
    · cases a <;> exact .lineFail q failed _ _ _ .lineSet
  | lsetb vz vo =>
    rw [step_lsetb h q] at hs
    obtain ⟨owned, ⟨-, rfl⟩ | ⟨failed, rfl⟩⟩ := lineSetBoth_next hs
    · exact .lsetb q owned
    · exact .lineFail q failed _ _ _ .lineSet
  | lrel =>
    rw [step_lrel h q] at hs
    obtain ⟨-, rfl⟩ | ⟨failed, rfl⟩ := lineRelease_next hs
    · exact .lrel q
    · exact .lineFail q failed _ _ _ .lineRelease

/-- What a step of the transmitter between two line operations can do (45 R187). -/
theorem transmitStep_txstep (h : s.running) {n : TxStep} (q : s.seq = .txstep n) (hs : step s = .next t) :
    TransmitStep s t := by
  cases n with
  | req =>
    rw [step_txReq h q, execTxReq] at hs
    split at hs <;> cases hs
    exact .req q ‹_› ‹_›
  | init => rw [step_txInit h q] at hs; cases hs; exact .init q
  | settle => rw [step_txSettle h q] at hs; cases hs; exact .settle q
  | pulse =>
    cases r : s.frame[s.i]? with
    | none => rw [step_pulse_end h q r] at hs; cases hs; exact .pulsesEnd q (List.getElem?_eq_none_iff.mp r)
    | some b => rw [step_pulse h q r] at hs; cases hs; exact .pulse q r
  | terminal => rw [step_txEnd h q] at hs; cases hs; exact .terminal q
  | rel => rw [step_txRel h q] at hs; cases hs; exact .rel q

/-- A step at a place of the transmission does one of the things that `TransmitStep` lists. -/
theorem transmitStep_of_step (h : s.running) (place : s.seq.encodes = false) (hs : step s = .next t) :
    TransmitStep s t := by
  cases q : s.seq with
  | txstep n => exact transmitStep_txstep h q hs
  | lineop op => exact transmitStep_lineop h q hs
  | hold k =>
    rw [step_hold h q] at hs
    by_cases ended : s.timer = 0
    · rw [holdTick_over ended] at hs; cases hs; exact .holdEnd q ended
    · rw [holdTick_running ended] at hs; cases hs; exact .tick q ended
  | finish => rw [step_finish h q] at hs; cases hs; exact .finish q
  | stage n | mode | litPrefix | literal | fstep n | format | parity => simp [q, Seq.encodes] at place

/-! ### A step outside a run -/

/-- A start command of 1 is START, taken from the host's commands (30 R103). -/
theorem step_start (h : s.phase = .ready ∨ s.phase = .done) {rest : List HostCommand}
    (e : s.host = .command 1 :: rest) : step s = execStart { s with host := rest } := by
  rcases h with h | h <;> simp [step, State.fetch, State.afterFetch, h, e, decode, decodeCmd, exec]

/-- A start command of 0 is taken and does nothing (30 R103). -/
theorem step_start_low (h : s.phase = .ready ∨ s.phase = .done) {rest : List HostCommand}
    (e : s.host = .command 0 :: rest) : step s = .next { s with host := rest } := by
  rcases h with h | h <;> simp [step, State.fetch, State.afterFetch, h, e, decode, decodeCmd, State.onReject]

/-- Without a start command the sequencer acts by itself (10 R37). -/
theorem step_idle (h : s.phase = .ready ∨ s.phase = .done) (e : ∀ b rest, s.host ≠ .command b :: rest) :
    step s = s.sequence := by
  have fetched : s.fetch = none := by
    rcases h with h | h <;> simp [State.fetch, h]
  simp [step, fetched]

/-- In READY a write is stored, a start of 1 begins the run, a start of 0 does nothing, a reset resets, and without a
command nothing happens (40 R124, 10 R37). -/
theorem step_ready_next (h : s.phase = .ready) (hs : step s = .next t) :
    (∃ w rest, s.host = .write w :: rest ∧ t = { s with cr := w.apply s.cr, host := rest }) ∨
    (∃ rest, s.host = .command 1 :: rest ∧
      t = { s with phase := .encoding, seq := .stage .cfgchk, host := rest }) ∨
    (∃ rest, s.host = .command 0 :: rest ∧ t = { s with host := rest }) ∨
    (s.host.head? = some .reset ∧ t = s.hostReset) ∨
    (s.host = [] ∧ t = s) := by
  match e : s.host with
  | [] => rw [step_host_none (.inl h) e] at hs; cases hs; simp
  | .write w :: rest =>
    rw [step_idle (.inl h) (by simp [e])] at hs
    simp_all [State.sequence, State.idleReady]
  | .command b :: rest =>
    obtain rfl | rfl := b.eq_zero_or_eq_one
    · rw [step_start_low (.inl h) e] at hs; simp_all
    · rw [step_start (.inl h) e] at hs; simp_all [execStart, State.goto]
  | .reset :: rest =>
    rw [step_idle (.inl h) (by simp [e])] at hs
    simp_all [State.sequence, State.idleReady]

/-- In DONE a start of 0 does nothing, a reset resets, and without a command nothing happens; every other command is
refused (10 R31, 60 R236). -/
theorem step_done_next (h : s.phase = .done) (hs : step s = .next t) :
    (∃ rest, s.host = .command 0 :: rest ∧ t = { s with host := rest }) ∨
    (s.host.head? = some .reset ∧ t = s.hostReset) ∨
    (s.host = [] ∧ t = s) := by
  match e : s.host with
  | [] => rw [step_host_none (.inr h) e] at hs; cases hs; simp
  | .write w :: rest =>
    rw [step_idle (.inr h) (by simp [e])] at hs
    simp_all [State.sequence, State.idleDone]
  | .command b :: rest =>
    obtain rfl | rfl := b.eq_zero_or_eq_one
    · rw [step_start_low (.inr h) e] at hs; simp_all
    · rw [step_start (.inr h) e] at hs; simp_all [execStart]
  | .reset :: rest =>
    rw [step_idle (.inr h) (by simp [e])] at hs
    simp_all [State.sequence, State.idleDone]

end Sys2Proof.Machine
end

section
/-! Every step keeps the invariant of the block: the step of READY and DONE, the step of the encoding and the step of
the transmission, each from what it can do. -/

namespace Sys2Proof.Machine

variable {s t : State}

/-! ### The invariant, phase by phase -/

theorem inv_ready (h : s.phase = .ready) :
    s.inv ↔ (s.exit = none ∧ s.diag = [] ∧ s.cause = none) ∧ s.boundsInv ∧ s.linesUntouched ∧ s.k = 0 := by
  simp only [State.inv, State.statusInv, State.phaseInv, h]

theorem inv_encoding (h : s.phase = .encoding) :
    s.inv ↔ (s.exit = none ∧ s.diag = [] ∧ s.cause = none) ∧ s.boundsInv ∧ s.linesUntouched ∧ s.encodingInv := by
  simp only [State.inv, State.statusInv, State.phaseInv, h]

theorem inv_transmitting (h : s.phase = .transmitting) :
    s.inv ↔ (s.exit = none ∧ s.diag = [] ∧ s.cause = none) ∧ s.boundsInv ∧ s.gateInv ∧ s.transmittingInv := by
  simp only [State.inv, State.statusInv, State.phaseInv, h]

theorem inv_of_ready (h : s.phase = .ready) (status : s.exit = none ∧ s.diag = [] ∧ s.cause = none)
    (bounds : s.boundsInv) (untouched : s.linesUntouched) (cursor : s.k = 0) : s.inv :=
  (inv_ready h).mpr ⟨status, bounds, untouched, cursor⟩

theorem inv_of_encoding (h : s.phase = .encoding) (status : s.exit = none ∧ s.diag = [] ∧ s.cause = none)
    (bounds : s.boundsInv) (untouched : s.linesUntouched) (place : s.encodingInv) : s.inv :=
  (inv_encoding h).mpr ⟨status, bounds, untouched, place⟩

theorem inv_of_transmitting (h : s.phase = .transmitting) (status : s.exit = none ∧ s.diag = [] ∧ s.cause = none)
    (bounds : s.boundsInv) (gate : s.gateInv) (place : s.transmittingInv) : s.inv :=
  (inv_transmitting h).mpr ⟨status, bounds, gate, place⟩

/-- A FatalError leaves a state of DONE with status 2, one line and a cause, whatever the lines are at (60 R230). -/
theorem raiseFatal_inv (c : Cause) (bounds : s.boundsInv) : (s.raiseFatal c).inv :=
  ⟨.inr ⟨rfl, rfl, rfl⟩, bounds, trivial⟩

/-- The reset state, whatever inputs the environment still has for it (10 R47, 70 R260). -/
theorem reset_with_inputs_inv (host : List HostCommand) (answers : List Answer) (draws : Nat) :
    ({ State.reset with host := host, answers := answers, draws := draws } : State).inv :=
  inv_of_ready rfl ⟨rfl, rfl, rfl⟩ ⟨Nat.zero_le _, Nat.zero_le _, le_rfl, le_rfl⟩ ⟨rfl, rfl, rfl, rfl, rfl⟩ rfl

/-! ### READY and DONE -/

/-- In READY nothing that the host does touches the lines, and K = 0 is within any literal it writes (10 R37). -/
theorem step_ready_keeps_inv (hp : s.phase = .ready) (h : s.inv) (hs : step s = .next t) : t.inv := by
  obtain ⟨status, ⟨dlen, flen, -, ilen⟩, untouched, k0⟩ := (inv_ready hp).mp h
  have cursor (u : State) : s.k ≤ u.rawChars.length := k0 ▸ Nat.zero_le _
  obtain ⟨w, rest, -, rfl⟩ | ⟨rest, -, rfl⟩ | ⟨rest, -, rfl⟩ | ⟨-, rfl⟩ | ⟨-, rfl⟩ := step_ready_next hp hs
  · exact inv_of_ready hp status ⟨dlen, flen, cursor _, ilen⟩ untouched k0
  · exact inv_of_encoding rfl status ⟨dlen, flen, cursor _, ilen⟩ untouched trivial
  · exact inv_of_ready hp status ⟨dlen, flen, cursor _, ilen⟩ untouched k0
  · exact reset_with_inputs_inv _ _ _
  · exact h

/-- In DONE a step changes nothing of the block but by a reset (10 R37, 60 R236). -/
theorem step_done_keeps_inv (hp : s.phase = .done) (h : s.inv) (hs : step s = .next t) : t.inv := by
  obtain ⟨rest, -, rfl⟩ | ⟨-, rfl⟩ | ⟨-, rfl⟩ := step_done_next hp hs
  · exact h
  · exact reset_with_inputs_inv _ _ _
  · exact h

/-! ### ENCODING -/

/-- Handing over within BUILD keeps what CFGCHK and BUILD have established (41 R130, 10 R34). -/
theorem handOver_encodingInv {p : Seq} (q : (s.seq, p) ∈ handOvers) (place : s.encodingInv) :
    ({ s with seq := p } : State).encodingInv := by
  simp only [handOvers, List.mem_cons, Prod.mk.injEq, List.not_mem_nil, or_false] at q
  rcases q with ⟨q, rfl⟩ | ⟨q, rfl⟩ | ⟨q, rfl⟩ | ⟨q, rfl⟩ | ⟨q, rfl⟩ | ⟨q, rfl⟩ | ⟨q, rfl⟩ <;>
    (simp only [State.encodingInv, q] at place ⊢; exact place)

/-- A step of the encoding keeps the invariant: the lines stay untouched, the buffers and K within bounds, and each
place finds what the stages before it have established (40 R121, R122). -/
theorem EncodeStep.keeps_inv (st : EncodeStep s t) (hp : s.phase = .encoding) (h : s.inv) : t.inv := by
  obtain ⟨status, bounds, untouched, place⟩ := (inv_encoding hp).mp h
  have ⟨dlen, flen, klen, ilen⟩ := bounds
  have ⟨unowned, off, i0, _, timer0⟩ := untouched
  have built (q : s.encodingInv = s.builtInv) : s.builtInv := q ▸ place
  cases st with
  | fatal c => exact raiseFatal_inv c bounds
  | cfgchk q passed => exact inv_of_encoding hp status bounds untouched passed
  | build q =>
    have checked : s.cr.check = none := by simpa only [State.encodingInv, q] using place
    have mode : (if s.cr.raw.isSome then BuildMode.raw else .field) = .raw ↔ s.cr.raw.isSome := by
      cases s.cr.raw.isSome <;> simp
    exact inv_of_encoding hp status ⟨Nat.zero_le _, flen, klen, ilen⟩ untouched ⟨checked, mode⟩
  | handOver q => exact inv_of_encoding hp status bounds untouched (handOver_encodingInv q place)
  | literalStart hex q inside =>
    exact inv_of_encoding hp status ⟨dlen, flen, inside, ilen⟩ untouched (built (by simp only [State.encodingInv, q]))
  | character q char legal fits =>
    have inside : s.k < s.rawChars.length := (List.getElem?_eq_some_iff.mp char).1
    exact inv_of_encoding hp status ⟨fits dlen, flen, inside, ilen⟩ untouched
      (built (by simp only [State.encodingInv, q]))
  | overrides q facility card | presetWidths q supported =>
    exact inv_of_encoding hp status bounds untouched (built (by simp only [State.encodingInv, q]))
  | compose q fits =>
    have dlen' : (msbFirst s.cr.facility s.fb ++ msbFirst s.cr.card s.cb).length ≤ Config.dataCap := by simpa using fits
    exact inv_of_encoding hp status ⟨dlen', flen, klen, ilen⟩ untouched (built (by simp only [State.encodingInv, q]))
  | @pad e q expected long fits =>
    have dlen' : (zeros (e - s.dlen) ++ s.data).length ≤ Config.dataCap := by
      rw [List.length_append, zeros_length, ← State.dlen, Nat.sub_add_cancel long]
      exact fits
    exact inv_of_encoding hp status ⟨dlen', flen, klen, ilen⟩ untouched (built (by simp only [State.encodingInv, q]))
  | par q =>
    exact inv_of_encoding hp status ⟨dlen, Nat.zero_le _, klen, i0.le⟩ untouched
      (built (by simp only [State.encodingInv, q]))
  | parity q fits =>
    have flen' := (frameOfData_length s.cr.parity s.data).trans (Nat.add_le_add_right dlen 2)
    exact inv_of_encoding hp status ⟨dlen, flen', klen, i0 ▸ Nat.zero_le _⟩ untouched
      (built (by simp only [State.encodingInv, q]))
  | fval q passed =>
    exact inv_of_encoding hp status bounds untouched ⟨built (by simp only [State.encodingInv, q]), passed⟩
  | tx q =>
    have gate : s.gateInv := by simpa only [State.encodingInv, q] using place
    exact inv_of_transmitting rfl status bounds gate ⟨unowned, off, i0, rfl, timer0⟩

/-! ### TRANSMITTING -/

/-- The state after the falling set has its line low for PULSE_US, the one after the rising set both high for SPACE_US
(45 R193). -/
theorem lset1_keeps_inv {a : Line} {v : Level} (hp : s.phase = .transmitting) (h : s.inv)
    (q : s.seq = .lineop (.lset1 a v)) (owned : s.owned = true) :
    ({ s.answered with
        lvl0 := if a = .zero then v else s.lvl0, lvl1 := if a = .one then v else s.lvl1, stepIx := s.stepIx + 1,
        timer := s.holdUs (holdAfter a v), seq := .hold (holdAfter a v) } : State).inv := by
  obtain ⟨status, bounds, gate, place⟩ := (inv_transmitting hp).mp h
  cases v with
  | low =>
    simp only [State.transmittingInv, q] at place
    obtain ⟨⟨-, high0, high1⟩, pulse, entry, -⟩ := place
    have entry_next : s.stepIx + 1 = 4 + 4 * s.i := by omega
    exact inv_of_transmitting hp status bounds gate
      ⟨⟨owned, by rw [high0], by rw [high1]⟩, pulse, entry_next, le_refl s.cr.pulseUs⟩
  | high =>
    simp only [State.transmittingInv, q] at place
    obtain ⟨⟨-, level0, level1⟩, pulse, entry, -⟩ := place
    have entry_next : s.stepIx + 1 = 6 + 4 * s.i := by omega
    exact inv_of_transmitting hp status bounds gate
      ⟨⟨owned, by simp [level0], by simp [level1]⟩, ⟨a, pulse⟩, entry_next, le_refl s.cr.spaceUs⟩

/-- A hold that counts stays below its duration (45 R199). -/
theorem tick_keeps_inv {k : HoldKind} (hp : s.phase = .transmitting) (h : s.inv) (q : s.seq = .hold k) :
    ({ s with timer := s.timer - 1 } : State).inv := by
  obtain ⟨status, bounds, gate, place⟩ := (inv_transmitting hp).mp h
  have shorter {n : Nat} (m : s.timer ≤ n) : s.timer - 1 ≤ n := (Nat.sub_le _ _).trans m
  refine inv_of_transmitting hp status bounds gate ?_
  cases k with
  | settle =>
    simp only [State.transmittingInv, q] at place ⊢
    obtain ⟨idle, txs, entry, i0, timer⟩ := place
    exact ⟨idle, txs, entry, i0, shorter timer⟩
  | pulse a =>
    simp only [State.transmittingInv, q] at place ⊢
    obtain ⟨low, pulse, entry, timer⟩ := place
    exact ⟨low, pulse, entry, shorter timer⟩
  | space =>
    simp only [State.transmittingInv, q] at place ⊢
    obtain ⟨idle, pulse, entry, timer⟩ := place
    exact ⟨idle, pulse, entry, shorter timer⟩

/-- After the settle hold I = 0, after the low time the rising set follows, and after the spacing I advances, at most to
FLEN (45 R187, R190, R193). -/
theorem holdDone_keeps_inv {k : HoldKind} (hp : s.phase = .transmitting) (h : s.inv) (q : s.seq = .hold k)
    (ended : s.timer = 0) : (s.holdDone k).inv := by
  obtain ⟨status, ⟨dlen, flen, klen, ilen⟩, gate, place⟩ := (inv_transmitting hp).mp h
  cases k with
  | settle =>
    simp only [State.transmittingInv, q] at place
    obtain ⟨idle, -, entry, -, -⟩ := place
    exact inv_of_transmitting hp status ⟨dlen, flen, klen, Nat.zero_le _⟩ gate ⟨idle, congrArg (· + 1) entry, ended⟩
  | pulse a =>
    simp only [State.transmittingInv, q] at place
    obtain ⟨low, pulse, entry, -⟩ := place
    have entry_next : s.stepIx + 1 = 5 + 4 * s.i := by omega
    exact inv_of_transmitting hp status ⟨dlen, flen, klen, ilen⟩ gate ⟨low, pulse, entry_next, ended⟩
  | space =>
    simp only [State.transmittingInv, q] at place
    obtain ⟨idle, ⟨a, -, selects⟩, entry, -⟩ := place
    have inside : s.i < s.frame.length := by
      obtain ⟨b, bit, -⟩ := Option.map_eq_some_iff.mp selects
      exact (List.getElem?_eq_some_iff.mp bit).1
    have entry_next : s.stepIx + 1 = 3 + 4 * (s.i + 1) := by omega
    exact inv_of_transmitting hp status ⟨dlen, flen, klen, inside⟩ gate ⟨idle, entry_next, ended⟩

/-- A step of the transmission keeps the invariant: it goes from entry STEP of txops to the next, or ends the run (45
R187). -/
theorem TransmitStep.keeps_inv (st : TransmitStep s t) (hp : s.phase = .transmitting) (h : s.inv) : t.inv := by
  obtain ⟨status, bounds, gate, place⟩ := (inv_transmitting hp).mp h
  cases st with
  | lineFail q failed owned lvl0 lvl1 c => exact raiseFatal_inv c bounds
  | req q zero one =>
    simp only [State.transmittingInv, q] at place
    obtain ⟨unowned, -, i0, entry, timer⟩ := place
    exact inv_of_transmitting hp status bounds gate ⟨rfl, zero, one, unowned, rfl, entry, i0, timer⟩
  | init q =>
    simp only [State.transmittingInv, q] at place
    obtain ⟨idle, txs, entry, i0, timer⟩ := place
    exact inv_of_transmitting hp status bounds gate ⟨idle, rfl, rfl, timer, .inl ⟨entry, txs, i0⟩⟩
  | settle q =>
    simp only [State.transmittingInv, q] at place
    obtain ⟨idle, txs, entry, i0, -⟩ := place
    exact inv_of_transmitting hp status bounds gate ⟨idle, txs, entry, i0, le_rfl⟩
  | pulse q bit =>
    simp only [State.transmittingInv, q] at place
    obtain ⟨idle, entry, timer⟩ := place
    exact inv_of_transmitting hp status bounds gate ⟨idle, ⟨rfl, congrArg (Option.map lineOf) bit⟩, entry, timer⟩
  | pulsesEnd q ended =>
    simp only [State.transmittingInv, q] at place
    obtain ⟨idle, entry, timer⟩ := place
    have ⟨_, _, _, ilen⟩ := bounds
    have last : s.i = s.frame.length := le_antisymm ilen ended
    exact inv_of_transmitting hp status bounds gate ⟨idle, last, last ▸ entry, timer⟩
  | terminal q =>
    simp only [State.transmittingInv, q] at place
    obtain ⟨idle, last, entry, timer⟩ := place
    exact inv_of_transmitting hp status bounds gate ⟨idle, rfl, rfl, timer, .inr ⟨entry, last⟩⟩
  | rel q =>
    simp only [State.transmittingInv, q] at place
    exact inv_of_transmitting hp status bounds gate place
  | lreq q =>
    simp only [State.transmittingInv, q] at place
    obtain ⟨-, -, -, -, txs, entry, i0, timer⟩ := place
    exact inv_of_transmitting hp status bounds gate ⟨⟨rfl, rfl, rfl⟩, txs, congrArg (· + 1) entry, i0, timer⟩
  | lset1 q owned => exact lset1_keeps_inv hp h q owned
  | lsetb q owned =>
    simp only [State.transmittingInv, q] at place
    obtain ⟨-, rfl, rfl, timer, ⟨entry, txs, i0⟩ | ⟨entry, last⟩⟩ := place
    · rw [if_pos entry]
      exact inv_of_transmitting hp status bounds gate ⟨⟨owned, rfl, rfl⟩, txs, congrArg (· + 1) entry, i0, timer⟩
    · rw [if_neg (by omega)]
      exact inv_of_transmitting hp status bounds gate ⟨⟨owned, rfl, rfl⟩, last, by simp [entry]; omega, timer⟩
  | lrel q =>
    simp only [State.transmittingInv, q] at place
    obtain ⟨⟨-, high0, high1⟩, last, entry, timer⟩ := place
    exact inv_of_transmitting hp status bounds gate ⟨rfl, high0, high1, rfl, last, by simp [entry]; omega, timer⟩
  | tick q runs => exact tick_keeps_inv hp h q
  | holdEnd q ended => exact holdDone_keeps_inv hp h q ended
  | finish q =>
    obtain ⟨-, -, cause⟩ := status
    exact ⟨.inl ⟨rfl, rfl, cause⟩, bounds, trivial⟩

/-! ### What a step of a run leaves as it was -/

theorem EncodeStep.frame_eq (st : EncodeStep s t) : t.cr = s.cr ∧ t.host = s.host := by
  cases st <;> exact ⟨rfl, rfl⟩

theorem TransmitStep.frame_eq (st : TransmitStep s t) :
    t.cr = s.cr ∧ t.host = s.host ∧ t.data = s.data ∧ t.frame = s.frame := by
  cases st with
  | @holdEnd k => cases k <;> exact ⟨rfl, rfl, rfl, rfl⟩
  | _ => exact ⟨rfl, rfl, rfl, rfl⟩

theorem EncodeStep.phase_eq (st : EncodeStep s t) :
    t.phase = s.phase ∨ t.phase = .transmitting ∨ t.phase = .done := by
  cases st with
  | fatal => exact .inr (.inr rfl)
  | tx => exact .inr (.inl rfl)
  | _ => exact .inl rfl

theorem TransmitStep.phase_eq (st : TransmitStep s t) : t.phase = s.phase ∨ t.phase = .done := by
  cases st with
  | lineFail | finish => exact .inr rfl
  | @holdEnd k => cases k <;> exact .inl rfl
  | _ => exact .inl rfl

/-- A step of a run is one of the encoding or one of the transmission, by the place of the sequencer (40 R121). -/
theorem step_running_next (h : s.running) (hs : step s = .next t) : EncodeStep s t ∨ TransmitStep s t := by
  cases place : s.seq.encodes
  · exact .inr (transmitStep_of_step h place hs)
  · exact .inl (encodeStep_of_step h place hs)

end Sys2Proof.Machine
end

section
/-! Proofs of the statements about the state (10): reset, the order of the phases, what a run leaves alone, and the
invariant of the block. -/

namespace Sys2Proof.Proofs

open Sys2Proof.Machine

/-- Settles O50: by the phase, and in a run by what the step at the sequencer's place can do. -/
theorem stepKeepsInvariant : Obligations.StepKeepsInvariant := by
  unfold Obligations.StepKeepsInvariant
  intro s t h hs
  cases hp : s.phase with
  | ready => exact step_ready_keeps_inv hp h hs
  | encoding =>
    obtain ⟨-, -, -, place⟩ := (inv_encoding hp).mp h
    exact (encodeStep_of_step (.inl hp) (encodes_of_encodingInv place) hs).keeps_inv hp h
  | transmitting =>
    obtain ⟨-, -, -, place⟩ := (inv_transmitting hp).mp h
    exact (transmitStep_of_step (.inr hp) (not_encodes_of_transmittingInv place) hs).keeps_inv hp h
  | done => exact step_done_keeps_inv hp h hs

/-- Settles O11: no operation of a run writes a configuration register or reads the host's queue. -/
theorem configurationFrozenInRun : Obligations.ConfigurationFrozenInRun := by
  unfold Obligations.ConfigurationFrozenInRun
  intro s t running hs
  obtain st | st := step_running_next running hs
  · exact st.frame_eq
  · obtain ⟨cr, host, -, -⟩ := st.frame_eq
    exact ⟨cr, host⟩

/-- Settles O12: in a run TX and the end of the run alone write PHASE; outside it START and the reset do. -/
theorem phasesFollowInOrder : Obligations.PhasesFollowInOrder := by
  unfold Obligations.PhasesFollowInOrder
  intro s t hs changed
  have in_run (running : s.running) : t.phase = .transmitting ∨ t.phase = .done := by
    obtain st | st := step_running_next running hs
    · exact st.phase_eq.resolve_left changed
    · exact .inr (st.phase_eq.resolve_left changed)
  cases hp : s.phase with
  | ready =>
    obtain ⟨w, rest, -, rfl⟩ | ⟨rest, -, rfl⟩ | ⟨rest, -, rfl⟩ | ⟨-, rfl⟩ | ⟨-, rfl⟩ := step_ready_next hp hs
    · exact absurd rfl changed
    · exact .inl ⟨rfl, rfl⟩
    · exact absurd rfl changed
    · exact absurd hp.symm changed
    · exact absurd rfl changed
  | encoding => simpa [hp] using in_run (.inl hp)
  | transmitting => simpa [hp] using (in_run (.inr hp)).resolve_left (hp ▸ changed)
  | done =>
    obtain ⟨rest, -, rfl⟩ | ⟨reset, rfl⟩ | ⟨-, rfl⟩ := step_done_next hp hs
    · exact absurd rfl changed
    · exact .inr (.inr (.inr (.inr ⟨rfl, rfl, reset⟩)))
    · exact absurd rfl changed

/-- Settles O55: the places of the transmission have no operation that writes a buffer. -/
theorem buffersFrozenInTransmission : Obligations.BuffersFrozenInTransmission := by
  unfold Obligations.BuffersFrozenInTransmission
  intro s t h hp hs
  obtain ⟨-, -, -, place⟩ := (inv_transmitting hp).mp h
  obtain ⟨-, -, buffers⟩ := (transmitStep_of_step (.inr hp) (not_encodes_of_transmittingInv place) hs).frame_eq
  exact buffers

/-- Settles O7: the reset state is written from the table of 10 R47, each clause one of its rows. -/
theorem resetValues : Obligations.ResetValues := by
  unfold Obligations.ResetValues
  exact ⟨rfl, rfl, rfl, rfl, rfl, rfl, rfl, rfl, rfl, rfl, rfl, rfl, rfl⟩

/-- Settles O49: a reset with nothing queued, nothing answered and nothing drawn. -/
theorem resetMeetsInvariant : Obligations.ResetMeetsInvariant :=
  reset_with_inputs_inv [] [] 0

end Sys2Proof.Proofs
end

section
/-! The line operations by the controller's answer, with and without ownership: one equation a case, and what a set of
one line does to the two levels (20 R67 to R72). -/

namespace Sys2Proof.Machine

variable {s : State}

/-! ### The operation and its answer -/

theorem exec_lreq (chip : List Byte) (z o : Nat) : exec (.lreq chip z o) s = s.lineRequest := rfl

theorem exec_lset1 (a : Line) (v : Level) : exec (.lset1 a v) s = s.lineSet a v := rfl

theorem exec_lsetb (vz vo : Level) : exec (.lsetb vz vo) s = s.lineSetBoth vz vo := rfl

theorem exec_lrel : exec .lrel s = s.lineRelease := rfl

theorem lineRequest_ok (granted : s.answer = .ok) :
    s.lineRequest = .next (s.grant.answered.entryDone.goto (.txstep .init)) := by
  rw [State.lineRequest, granted]

theorem lineRequest_fail (failed : s.answer = .fail) :
    s.lineRequest = .next ({ s with owned := false }.answered.raiseFatal .lineRequest) := by
  rw [State.lineRequest, failed]

theorem lineSet_unowned (a : Line) (v : Level) (unowned : s.owned = false) :
    s.lineSet a v = .fault .lineNotOwned := by
  simp [State.lineSet, unowned]

theorem lineSet_ok (a : Line) (v : Level) (owned : s.owned = true) (accepted : s.answer = .ok) :
    s.lineSet a v = .next ((s.drive a v).answered.entryDone.startHold (holdAfter a v)) := by
  rw [State.lineSet, if_pos owned, accepted]

theorem lineSet_fail (a : Line) (v : Level) (owned : s.owned = true) (failed : s.answer = .fail) :
    s.lineSet a v = .next ((s.driveFailed a v).ownershipUnknown.answered.raiseFatal .lineSet) := by
  rw [State.lineSet, if_pos owned, failed]

theorem lineSetBoth_unowned (vz vo : Level) (unowned : s.owned = false) :
    s.lineSetBoth vz vo = .fault .lineNotOwned := by
  simp [State.lineSetBoth, unowned]

theorem lineSetBoth_ok (vz vo : Level) (owned : s.owned = true) (accepted : s.answer = .ok) :
    s.lineSetBoth vz vo =
      .next ((s.driveBoth vz vo).answered.entryDone.goto (.txstep (if s.stepIx = 1 then .settle else .rel))) := by
  rw [State.lineSetBoth, if_pos owned, accepted]

theorem lineSetBoth_fail (vz vo : Level) (owned : s.owned = true) (failed : s.answer = .fail) :
    s.lineSetBoth vz vo = .next ((s.driveBothFailed vz vo).ownershipUnknown.answered.raiseFatal .lineSet) := by
  rw [State.lineSetBoth, if_pos owned, failed]

theorem lineRelease_ok (accepted : s.answer = .ok) :
    s.lineRelease = .next ({ s with owned := false, txs := .settled }.answered.entryDone.goto .finish) := by
  rw [State.lineRelease, accepted]

theorem lineRelease_fail (failed : s.answer = .fail) :
    s.lineRelease = .next (s.ownershipUnknown.answered.raiseFatal .lineRelease) := by
  rw [State.lineRelease, failed]

/-! ### One line is set -/

/-- A set of one line writes the level of that line alone (20 R69). -/
theorem drive_eq (a : Line) (v : Level) :
    s.drive a v =
      { s with lvl0 := if a = .zero then v else s.lvl0, lvl1 := if a = .one then v else s.lvl1 } := by
  cases a <;> rfl

/-- A failed set of one line writes at most the two levels (20 R72). -/
theorem driveFailed_eq (a : Line) (v : Level) :
    s.driveFailed a v = { s with lvl0 := (s.driveFailed a v).lvl0, lvl1 := (s.driveFailed a v).lvl1 } := by
  cases a <;> rfl

/-- After a failed set of one line the zero-line has a new level only if it is the one that was set (20 R72). -/
theorem driveFailed_lvl0 (a : Line) (v : Level) :
    (s.driveFailed a v).lvl0 = s.lvl0 ∨ a = .zero ∧ (s.driveFailed a v).lvl0 = v := by
  cases a with
  | zero => exact (uncertain_old_or_new _ s.lvl0 v).imp_right fun new => ⟨rfl, new⟩
  | one => exact .inl rfl

/-- After a failed set of one line the one-line has a new level only if it is the one that was set (20 R72). -/
theorem driveFailed_lvl1 (a : Line) (v : Level) :
    (s.driveFailed a v).lvl1 = s.lvl1 ∨ a = .one ∧ (s.driveFailed a v).lvl1 = v := by
  cases a with
  | zero => exact .inl rfl
  | one => exact (uncertain_old_or_new _ s.lvl1 v).imp_right fun new => ⟨rfl, new⟩

theorem holdAfter_eq (a : Line) (v : Level) : holdAfter a v = if v = .low then .pulse a else .space := by
  cases v <;> rfl

/-- The low half of a pulse lasts PULSE_US, the high half SPACE_US (45 R193). -/
theorem holdUs_holdAfter (a : Line) (v : Level) :
    s.holdUs (holdAfter a v) = if v = .low then s.cr.pulseUs else s.cr.spaceUs := by
  cases v <;> rfl

end Sys2Proof.Machine
end

section
/-! Proofs of the statements about the lines (20): each operation by its answer. -/

namespace Sys2Proof.Proofs

open Sys2Proof.Machine

/-- Settles O41: by the two answers to LREQ. -/
theorem requestGrantsOrFails : Obligations.RequestGrantsOrFails := by
  unfold Obligations.RequestGrantsOrFails
  intro s chip z o
  rw [exec_lreq]
  refine ⟨fun granted => ?_, fun failed => ⟨diagLine (s.draws + 1), ?_⟩⟩
  · rw [lineRequest_ok granted]; rfl
  · rw [lineRequest_fail failed]; rfl

/-- Settles O42: by ownership and the answer; a failed LSET1 is uncertain about its own line alone. -/
theorem setOneLineDrivesOnlyIt : Obligations.SetOneLineDrivesOnlyIt := by
  unfold Obligations.SetOneLineDrivesOnlyIt
  intro s a v
  rw [exec_lset1]
  refine ⟨lineSet_unowned a v, fun owned accepted => ?_, fun owned failed =>
    ⟨(s.driveFailed a v).lvl0, (s.driveFailed a v).lvl1, Config.ownedAfterFail s.draws, diagLine (s.draws + 1),
      driveFailed_lvl0 a v, driveFailed_lvl1 a v, ?_⟩⟩
  · rw [lineSet_ok a v owned accepted, drive_eq, ← holdAfter_eq, ← holdUs_holdAfter]; rfl
  · rw [lineSet_fail a v owned failed, driveFailed_eq]; rfl

/-- Settles O43: by ownership and the answer; a failed LSETB is uncertain about each line by a draw of its own. -/
theorem setBothLinesIsAtomic : Obligations.SetBothLinesIsAtomic := by
  unfold Obligations.SetBothLinesIsAtomic
  intro s vz vo
  rw [exec_lsetb]
  refine ⟨lineSetBoth_unowned vz vo, fun owned accepted => ?_, fun owned failed =>
    ⟨uncertain (Config.tookEffectZero s.draws) s.lvl0 vz, uncertain (Config.tookEffectOne s.draws) s.lvl1 vo,
      Config.ownedAfterFail s.draws, diagLine (s.draws + 1), uncertain_old_or_new _ _ _,
      uncertain_old_or_new _ _ _, ?_⟩⟩
  · rw [lineSetBoth_ok vz vo owned accepted]; rfl
  · rw [lineSetBoth_fail vz vo owned failed]; rfl

/-- Settles O44: by the two answers to LREL. -/
theorem releaseGivesUpOwnership : Obligations.ReleaseGivesUpOwnership := by
  unfold Obligations.ReleaseGivesUpOwnership
  intro s
  rw [exec_lrel]
  refine ⟨fun accepted => ?_, fun failed => ⟨Config.ownedAfterFail s.draws, diagLine (s.draws + 1), ?_⟩⟩
  · rw [lineRelease_ok accepted]; rfl
  · rw [lineRelease_fail failed]; rfl

end Sys2Proof.Proofs
end

section
/-! The decoder and the encoder undo each other, format by format (30 R92 to R108). -/

namespace Sys2Proof

/-! ### Decoding undoes encoding -/

/-- An operation without an operand is read back by evaluation; the operand of every other is kept by its own rule
(30 R108). -/
theorem decode_encode {i : Instr} (h : i.wf = true) : decode (encode i) = .ok i := by
  cases i with
  | rawPrefixHex upper => exact Laws.RoundTrip.rawPrefixHex upper h
  | rawPrefixBin chars => exact Laws.RoundTrip.rawPrefixBin chars h
  | binIll ch => exact Laws.RoundTrip.binIll ch h
  | hexIll ch => exact Laws.RoundTrip.hexIll ch h
  | fmtIll id => exact Laws.RoundTrip.fmtIll id h
  | lset1 line level => exact Laws.RoundTrip.lset1 line level h
  | lsetb levelZ levelO => exact Laws.RoundTrip.lsetb levelZ levelO h
  | _ => rfl

/-! ### The characters of a code -/

/-- A PREFIX16 code is made of its two characters (30 R92). -/
theorem prefixCode_extract (w : BitVec 16) : prefixCode (w.extractLsb' 8 8) (w.extractLsb' 0 8) = w := by
  apply BitVec.eq_of_getLsbD_eq
  intro j hj
  by_cases low : j < 8
  · simp [prefixCode, low, hj]
  · simp [prefixCode, low, hj, show 8 + (j - 8) = j by omega, show j - 8 < 8 by omega]

/-- A LITCHAR9 code is made of its mode bit and its character (30 R90). -/
theorem litCode_split (w : BitVec 9) : litCode (w.getLsbD 8) (w.setWidth 8) = w := by
  apply BitVec.eq_of_getLsbD_eq
  intro j hj
  by_cases top : j = 8
  · subst top
    cases mode : w.getLsbD 8 <;> simp [litCode]
  · have low : j < 8 := by omega
    have mode_bit_clear : ∀ j < 8, (0x100#9).getLsbD j = false := by decide
    cases mode : w.getLsbD 8 <;> simp [litCode, low, hj, mode_bit_clear j low, -BitVec.getLsbD_eq_getElem]

/-! ### Encoding undoes decoding -/

/-- A character of the literal is read as its own row where it has one, else it is the operand of the default row
(30 R93, R94). -/
theorem encode_decodeLit_litCode (hex : Bool) (ch : Byte) :
    encode (decodeLit true (litCode hex ch)) = .litchar9 (litCode hex ch) ∧
      (decodeLit true (litCode hex ch)).wf = true := by
  cases hex with
  | false =>
    by_cases row : ch ∈ binChars
    · revert ch; decide
    · rw [decodeLit_binIll ch row]
      exact ⟨rfl, by simpa [Instr.wf] using row⟩
  | true =>
    by_cases row : ch ∈ hexChars true
    · revert ch; decide
    · rw [decodeLit_hexIll ch row]
      exact ⟨rfl, by simpa [Instr.wf, Config.hexLowerOk] using row⟩

theorem encode_decodeLit (w : BitVec 9) :
    encode (decodeLit true w) = .litchar9 w ∧ (decodeLit true w).wf = true := by
  simpa only [litCode_split] using encode_decodeLit_litCode (w.getLsbD 8) (w.setWidth 8)

/-- A supported identifier is read as its own row, any other is the operand of FMT.ILL (30 R104, R105). -/
theorem encode_decodeFormat (w : BitVec 8) : encode (decodeFormat w) = .fmtid8 w ∧ (decodeFormat w).wf = true := by
  by_cases row : w ∈ formatIds
  · revert w; decide
  · rw [decodeFormat_ill w row]
    exact ⟨rfl, by simpa [Instr.wf] using row⟩

/-- `0x` and `0X` are read as the hex rows, any other two characters are the operand of RAW.PREFIX.BIN (30 R92). -/
theorem encode_decodePrefix (w : Option (BitVec 16)) :
    encode (decodePrefix w) = .prefix16 w ∧ (decodePrefix w).wf = true := by
  cases w with
  | none => exact ⟨rfl, rfl⟩
  | some w =>
    rw [← prefixCode_extract w]
    generalize w.extractLsb' 8 8 = c0, w.extractLsb' 0 8 = c1
    cases hex : isHexPrefix c0 c1 with
    | true =>
      simp only [isHexPrefix, Bool.and_eq_true, Bool.or_eq_true, beq_iff_eq] at hex
      obtain ⟨rfl, rfl | rfl⟩ := hex <;> exact ⟨rfl, rfl⟩
    | false =>
      rw [decodePrefix_bin c0 c1 hex]
      exact ⟨rfl, by simpa [Instr.wf] using hex⟩

theorem encode_decodeMode (w : BitVec 1) : encode (decodeMode w) = .mode1 w ∧ (decodeMode w).wf = true := by
  revert w; decide

theorem encode_decodeFstep (w : BitVec 2) : encode (decodeFstep w) = .fstep2 w ∧ (decodeFstep w).wf = true := by
  revert w; decide

theorem encode_decodeParity (w : BitVec 2) : encode (decodeParity w) = .parsel2 w ∧ (decodeParity w).wf = true := by
  revert w; decide

theorem encode_of_decodeCmd {w : BitVec 1} {i : Instr} (h : decodeCmd w = .ok i) :
    encode i = .cmd1 w ∧ i.wf = true := by
  match w with
  | 0 => cases h
  | 1 => cases h; exact ⟨rfl, rfl⟩

theorem encode_of_decodeStage {w : BitVec 3} {i : Instr} (h : decodeStage w = .ok i) :
    encode i = .stage3 w ∧ i.wf = true := by
  match w with
  | 0 | 1 | 2 | 3 | 4 => cases h; exact ⟨rfl, rfl⟩
  | 5 | 6 | 7 => cases h

theorem encode_of_decodeTxStep {w : BitVec 3} {i : Instr} (h : decodeTxStep w = .ok i) :
    encode i = .txstep3 w ∧ i.wf = true := by
  match w with
  | 0 | 1 | 2 | 4 | 5 => cases h; exact ⟨rfl, rfl⟩
  | 3 | 6 | 7 => cases h

theorem encode_of_decodePulse {w : BitVec 4} {i : Instr} (h : decodePulse w = .ok i) :
    encode i = .pulse4 w ∧ i.wf = true := by
  match w with
  | 6 | 7 => cases h; exact ⟨rfl, rfl⟩
  | 0 | 1 | 2 | 3 | 4 | 5 | 8 | 9 | 10 | 11 | 12 | 13 | 14 | 15 => cases h

/-- The operands of a line operation are those of its code; only a request that names one line twice is ill formed
(30 R101, 41 R132). -/
theorem encode_of_decodeLineOp {op : BitVec 2} {operands : List Operand} {i : Instr}
    (h : decodeLineOp op operands = .ok i) :
    encode i = .lineop2 op operands ∧ (i.wf = true ∨ ∃ chip z, i = .lreq chip z z) := by
  unfold decodeLineOp at h
  split at h <;> cases h
  next chip z o code =>
    have request : op = 0 := BitVec.eq_of_toNat_eq code
    refine ⟨by rw [request]; rfl, ?_⟩
    by_cases same : z = o
    · exact .inr ⟨chip, z, by rw [same]⟩
    · exact .inl (by simpa [Instr.wf] using same)
  next sel level code =>
    have setOne : op = 1 := BitVec.eq_of_toNat_eq code
    exact ⟨by simp [encode, setOne], .inl rfl⟩
  next levelZ levelO code =>
    have setBoth : op = 2 := BitVec.eq_of_toNat_eq code
    exact ⟨by simp [encode, setBoth], .inl rfl⟩
  next code =>
    have release : op = 3 := BitVec.eq_of_toNat_eq code
    exact ⟨by rw [release]; rfl, .inl rfl⟩

/-- A code that is an operation is the code of that operation, which is well formed but for a request that names one
line twice (30 R108). -/
theorem encode_of_decode {c : Code} {i : Instr} (h : decode c = .ok i) :
    encode i = c ∧ (i.wf = true ∨ ∃ chip z, i = .lreq chip z z) := by
  cases c with
  | cmd1 w => exact (encode_of_decodeCmd h).imp_right .inl
  | stage3 w => exact (encode_of_decodeStage h).imp_right .inl
  | mode1 w => cases h; exact (encode_decodeMode w).imp_right .inl
  | prefix16 w => cases h; exact (encode_decodePrefix w).imp_right .inl
  | litchar9 w => cases h; exact (encode_decodeLit w).imp_right .inl
  | fstep2 w => cases h; exact (encode_decodeFstep w).imp_right .inl
  | fmtid8 w => cases h; exact (encode_decodeFormat w).imp_right .inl
  | parsel2 w => cases h; exact (encode_decodeParity w).imp_right .inl
  | txstep3 w => exact (encode_of_decodeTxStep h).imp_right .inl
  | pulse4 w => exact (encode_of_decodePulse h).imp_right .inl
  | lineop2 op operands => exact encode_of_decodeLineOp h

end Sys2Proof
end

section
/-! Which codes are fetched, and what is fetched where a code is placed (30 R103, R108). -/

namespace Sys2Proof.Machine

variable {s : State}

/-! ### The codes that are fetched -/

/-- Every place of the sequencer selects a listed code: the stages and the transmitter's steps have one each, and the
other formats have no unused code there (30 R108, 93 U16). -/
theorem decode_seqCode {c : Code} (h : s.seqCode = some c) : ∃ i, decode c = .ok i := by
  revert h
  unfold State.seqCode
  cases s.seq with
  | stage n => rintro ⟨⟩; cases n <;> exact ⟨_, rfl⟩
  | mode | litPrefix | fstep n | format | parity => rintro ⟨⟩; exact ⟨_, rfl⟩
  | literal => cases s.rawChars[s.k]? <;> rintro ⟨⟩; exact ⟨_, rfl⟩
  | txstep n =>
    cases n with
    | pulse =>
      rcases s.frame[s.i]? with _ | b <;> rintro ⟨⟩
      cases b <;> exact ⟨_, rfl⟩
    | req | init | settle | terminal | rel => rintro ⟨⟩; exact ⟨_, rfl⟩
  | lineop op => rintro ⟨⟩; cases op <;> exact ⟨_, rfl⟩
  | hold k | finish => rintro ⟨⟩

/-- Outside a run the one code is the host's start command (30 R103). -/
theorem fetch_idle {c : Code} (h : s.phase = .ready ∨ s.phase = .done) (hc : s.fetch = some c) :
    ∃ b, c = .cmd1 b := by
  match e : s.host with
  | .command b :: rest => exact ⟨b, by rcases h with h | h <;> simpa [State.fetch, h, e, eq_comm] using hc⟩
  | [] | .write w :: rest | .reset :: rest => rcases h with h | h <;> simp [State.fetch, h, e] at hc

/-! ### The code that is placed -/

theorem fetch_withCode_prefix16 (w : BitVec 16) :
    (s.withCode (.prefix16 (some w))).fetch = some (.prefix16 (some w)) :=
  congrArg (fun w => some (Code.prefix16 (some w))) (prefixCode_extract w)

theorem fetch_withCode_litchar9 (w : BitVec 9) : (s.withCode (.litchar9 w)).fetch = some (.litchar9 w) :=
  congrArg (fun w => some (Code.litchar9 w)) (litCode_split w)

/-- Whatever the state was, the code of an operation is fetched once it is placed (log 17). -/
theorem fetch_withCode_encode (i : Instr) : (s.withCode (encode i)).fetch = some (encode i) := by
  cases i with
  | rawPrefixHex upper => exact fetch_withCode_prefix16 _
  | rawPrefixBin chars =>
    rcases chars with _ | ⟨c0, c1⟩
    · rfl
    · exact fetch_withCode_prefix16 _
  | bin0 | bin1 | binSp | binUs | binIll ch
  | hex0 | hex1 | hex2 | hex3 | hex4 | hex5 | hex6 | hex7 | hex8 | hex9
  | hexUA | hexUB | hexUC | hexUD | hexUE | hexUF | hexLA | hexLB | hexLC | hexLD | hexLE | hexLF
  | hexIll ch => exact fetch_withCode_litchar9 _
  | lset1 line level => cases line <;> cases level <;> rfl
  | lsetb levelZ levelO => cases levelZ <;> cases levelO <;> rfl
  | _ => rfl

end Sys2Proof.Machine
end

section
/-! Proofs of the statements about the encoding (30). -/

namespace Sys2Proof.Proofs

open Sys2Proof.Machine

/-- Settles O1: operand by operand, as `decode_encode` says. -/
theorem decodingUndoesEncoding : Obligations.DecodingUndoesEncoding :=
  fun _ => decode_encode

/-- Settles O2: by the format of the code. -/
theorem encodingUndoesDecoding : Obligations.EncodingUndoesDecoding := by
  unfold Obligations.EncodingUndoesDecoding
  intro c i h
  obtain ⟨code, wf | ⟨chip, z, rfl⟩⟩ := encode_of_decode h
  · exact ⟨code, fun _ => wf⟩
  · exact ⟨code, fun two_lines => absurd rfl (two_lines chip z)⟩

/-- Settles O4: in a run by the place of the sequencer, outside it by the two start commands. -/
theorem sequencerProducesOnlyListedCodes : Obligations.SequencerProducesOnlyListedCodes := by
  unfold Obligations.SequencerProducesOnlyListedCodes
  intro s c hc
  have outside (idle : s.phase = .ready ∨ s.phase = .done) : c = .cmd1 0 ∨ ∃ i, decode c = .ok i := by
    obtain ⟨b, rfl⟩ := fetch_idle idle hc
    obtain rfl | rfl := b.eq_zero_or_eq_one
    · exact .inl rfl
    · exact .inr ⟨.start, rfl⟩
  have inside (running : s.running) : ∃ i, decode c = .ok i := decode_seqCode (fetch_running running ▸ hc)
  cases hp : s.phase with
  | ready => exact outside (.inl hp)
  | done => exact outside (.inr hp)
  | encoding => exact .inr (inside (.inl hp))
  | transmitting => exact .inr (inside (.inr hp))

/-- Settles O6: by the operation that is placed. -/
theorem placedCodeIsFetched : Obligations.PlacedCodeIsFetched :=
  fun _ i _ => fetch_withCode_encode i

/-- Settles O5: in a run nothing is consumed, outside it the start command is. -/
theorem stepRunsDecodedOperation : Obligations.StepRunsDecodedOperation := by
  unfold Obligations.StepRunsDecodedOperation
  intro s c i hc hi
  refine ⟨by simp [step, hc, hi], afterFetch_running, fun h => ?_⟩
  rcases h with h | h <;> simp [State.afterFetch, h]

/-- Settles O40: the pulse of either bit is begun by the operation of that bit. -/
theorem frameBitSelectsPulse : Obligations.FrameBitSelectsPulse := by
  unfold Obligations.FrameBitSelectsPulse
  intro s
  exact ⟨rfl, rfl, fun h q => ⟨step_pulse (.inr h) q, step_pulse (.inr h) q⟩⟩

end Sys2Proof.Proofs
end

section
/-! The host's commands in READY, one equation a command (40 R120, R124). -/

namespace Sys2Proof.Machine

variable {s : State}

/-- In READY START begins a run (40 R120). -/
theorem execStart_ready (h : s.phase = .ready) :
    execStart s = .next { s with phase := .encoding, seq := .stage .cfgchk } := by
  simp [execStart, h, State.goto]

/-- In any other phase START has no step (30 R103). -/
theorem execStart_refused (h : s.phase ≠ .ready) : execStart s = .refused .startOutsideReady := by
  unfold execStart
  cases hp : s.phase with
  | ready => exact absurd hp h
  | encoding | transmitting | done => rfl

/-- In READY a write is stored (40 R124). -/
theorem step_write (h : s.phase = .ready) {w : RegWrite} {rest : List HostCommand} (e : s.host = .write w :: rest) :
    step s = .next { s with cr := w.apply s.cr, host := rest } := by
  rw [step_idle (.inl h) (by simp [e])]
  simp [State.sequence, State.idleReady, h, e]

/-- Outside a run a reset is taken (70 R260; log 20). -/
theorem step_reset (h : s.phase = .ready ∨ s.phase = .done) {rest : List HostCommand} (e : s.host = .reset :: rest) :
    step s = .next { State.reset with host := rest, answers := s.answers, draws := s.draws } := by
  rw [step_idle h (by simp [e])]
  rcases h with h | h <;> simp [State.sequence, State.idleReady, State.idleDone, State.hostReset, h, e]

end Sys2Proof.Machine
end

section
/-! The transmission with every line operation answered ok: the runs of its parts, each with what it shows, from TX to
the end of RUN (45 R187). -/

namespace Sys2Proof.Machine

variable {s : State}

/-- A line operation shows itself in its step (20 R66). -/
theorem event_lineop (h : s.running) {op : LineOp} (q : s.seq = .lineop op) : s.event = some (.op op) := by
  rcases h with h | h <;> simp [State.event, h, q]

/-- Between two line operations the transmitter shows nothing (45 R187). -/
theorem event_txstep (h : s.running) {n : TxStep} (q : s.seq = .txstep n) : s.event = none := by
  rcases h with h | h <;> simp [State.event, h, q]

theorem event_finish (h : s.running) (q : s.seq = .finish) : s.event = none := by
  rcases h with h | h <;> simp [State.event, h, q]

/-! ### One frame bit -/

/-- The set of one line and the hold that follows it: half a pulse (45 R193). -/
theorem halfPulse_runs {a : Line} {v : Level} {rest : List Answer} (hp : s.phase = .transmitting)
    (q : s.seq = .lineop (.lset1 a v)) (owned : s.owned = true) (script : s.answers = .ok :: rest) :
    Runs (s.holdUs (holdAfter a v) + 2) s
      (({ s with
          lvl0 := if a = .zero then v else s.lvl0, lvl1 := if a = .one then v else s.lvl1, stepIx := s.stepIx + 1,
          timer := 0, seq := .hold (holdAfter a v), answers := rest, draws := s.draws + 1 } : State).holdDone
        (holdAfter a v))
      (.op (.lset1 a v) :: List.replicate (s.holdUs (holdAfter a v)) .tick) := by
  have set := (step_lset1 (.inr hp) q).trans (lineSet_ok a v owned (answer_of_script script))
  rw [drive_eq] at set
  have shown := Runs.shown set (event_lineop (.inr hp) q)
  simpa [State.startHold, State.entryDone, State.answered, script, Nat.add_comm 1] using
    shown.trans (hold_runs (s.holdUs (holdAfter a v)) hp rfl rfl)

/-- One frame bit: the selected line is low for PULSE_US and high for SPACE_US (45 R187, R193). -/
theorem pulse_runs {b : Bit} {rest : List Answer} (hp : s.phase = .transmitting) (q : s.seq = .txstep .pulse)
    (bit : s.frame[s.i]? = some b) (idle : s.linesIdle) (script : s.answers = .ok :: .ok :: rest) :
    Runs (s.cr.pulseUs + s.cr.spaceUs + 5) s
      { s with
        txs := .pulsing s.i, i := s.i + 1, stepIx := s.stepIx + 4, timer := 0, answers := rest, draws := s.draws + 2 }
      ((pulseEntries s.cr.pulseUs s.cr.spaceUs b).flatMap TxEntry.shown) := by
  obtain ⟨owned, high0, high1⟩ := idle
  have selected := Runs.silent (step_pulse (.inr hp) q bit) (event_txstep (.inr hp) q)
  have low := selected.trans (halfPulse_runs hp rfl owned script)
  have both := low.trans (halfPulse_runs (v := .high) (a := lineOf b) hp rfl owned rfl)
  convert both using 1
  · simp [holdAfter, State.holdUs, State.holdDone, State.goto, State.entryDone]; omega
  · cases b <;>
      simp [holdAfter, State.holdDone, State.goto, State.entryDone, lineOf, q, high0, high1]
  · simp [pulseEntries, TxEntry.shown, holdAfter, State.holdUs, State.holdDone, State.goto, State.entryDone]

/-! ### All the frame bits and the end -/

/-- The initial or the terminal transition: both lines are driven high (45 R189, R195). -/
theorem bothHigh_runs {n : TxStep} {rest : List Answer} (hp : s.phase = .transmitting)
    (q : s.seq = .lineop (.lsetb .high .high)) (owned : s.owned = true)
    (following : (if s.stepIx = 1 then .settle else .rel) = n) (script : s.answers = .ok :: rest) :
    Runs 1 s
      { s with
        lvl0 := .high, lvl1 := .high, stepIx := s.stepIx + 1, seq := .txstep n, answers := rest,
        draws := s.draws + 1 }
      [.op (.lsetb .high .high)] := by
  refine Runs.shown ((step_lsetb (.inr hp) q).trans (lineSetBoth_ok _ _ owned (answer_of_script script)) |>.trans ?_)
    (event_lineop (.inr hp) q)
  simp [State.driveBoth, State.answered, State.entryDone, State.goto, following, script]

/-- The release and the end of RUN (45 R196, 40 R121). -/
theorem release_runs {rest : List Answer} (hp : s.phase = .transmitting) (q : s.seq = .lineop .lrel)
    (script : s.answers = .ok :: rest) :
    Runs 2 s
      { s with
        phase := .done, txs := .settled, stepIx := s.stepIx + 1, owned := false, exit := some 0, diag := [],
        seq := .finish, answers := rest, draws := s.draws + 1 }
      [.op .lrel] := by
  have released := Runs.shown ((step_lrel (.inr hp) q).trans (lineRelease_ok (answer_of_script script)))
    (event_lineop (.inr hp) q)
  have finished := released.trans (Runs.silent (step_finish (.inr hp) rfl) (event_finish (.inr hp) rfl))
  simpa [State.endRun, State.goto, State.entryDone, State.answered, script, Config.exitOk] using finished

/-- After the last frame bit: the terminal transition, the release and the end of RUN (45 R195, R197, 40 R121). -/
theorem ending_runs {rest : List Answer} (hp : s.phase = .transmitting) (q : s.seq = .txstep .pulse)
    (last : s.i = s.frame.length) (owned : s.owned = true) (entry : s.stepIx ≠ 1)
    (script : s.answers = .ok :: .ok :: rest) :
    Runs 6 s
      { s with
        phase := .done, txs := .settled, stepIx := s.stepIx + 2, owned := false, lvl0 := .high, lvl1 := .high,
        exit := some 0, diag := [], seq := .finish, answers := rest, draws := s.draws + 2 }
      [.op (.lsetb .high .high), .op .lrel] := by
  have ended := (Runs.silent (step_pulse_end (.inr hp) q (by simp [last])) (event_txstep (.inr hp) q)).trans
    (Runs.silent (step_txEnd (.inr hp) rfl) (event_txstep (.inr hp) rfl))
  have driven := ended.trans (bothHigh_runs hp rfl owned (if_neg entry) script)
  have emitted := driven.trans (Runs.silent (step_txRel (.inr hp) rfl) (event_txstep (.inr hp) rfl))
  exact emitted.trans (release_runs hp rfl rfl)

/-- From frame bit I on, the frame bits that are left and the end of the run: by induction on them (45 R187). -/
theorem pulses_runs {sent : BitSeq} (left : BitSeq) {rest : List Answer} (hp : s.phase = .transmitting)
    (q : s.seq = .txstep .pulse) (split : s.frame = sent ++ left) (place : s.i = sent.length) (idle : s.linesIdle)
    (entry : s.stepIx = 3 + 4 * s.i) (timer : s.timer = 0)
    (script : s.answers = List.replicate (2 * left.length + 2) Answer.ok ++ rest) :
    Runs (left.length * (s.cr.pulseUs + s.cr.spaceUs + 5) + 6) s
      { s with
        phase := .done, txs := .settled, i := s.frame.length, stepIx := 4 * s.frame.length + 5, owned := false,
        lvl0 := .high, lvl1 := .high, exit := some 0, diag := [], seq := .finish, answers := rest,
        draws := s.draws + (2 * left.length + 2) }
      ((left.flatMap (pulseEntries s.cr.pulseUs s.cr.spaceUs)).flatMap TxEntry.shown ++
        [Event.op (.lsetb .high .high), .op .lrel]) := by
  induction left generalizing s sent with
  | nil =>
    obtain ⟨owned, -⟩ := idle
    have last : s.i = s.frame.length := by simp [split, place]
    have ended := ending_runs hp q last owned (by omega) script
    simpa [← last, entry, Nat.add_comm 3] using ended
  | cons b left ih =>
    have bit : s.frame[s.i]? = some b := by simp [split, place]
    have sent_bit := pulse_runs hp q bit idle (rest := List.replicate (2 * left.length + 2) Answer.ok ++ rest)
      (by rw [script]; rfl)
    have others := sent_bit.trans (ih (sent := sent ++ [b]) hp q (by simpa using split) (by simp [place]) idle
      (by simp [entry]; omega) rfl rfl)
    convert others using 1
    · simp only [List.length_cons, Nat.succ_mul]; omega
    · simp; omega
    · simp

/-- TX.REQ with both offsets present names the two lines (45 R186, R188). -/
theorem execTxReq_named {z o : Nat} (zero : s.cr.d0 = some z) (one : s.cr.d1 = some o) :
    execTxReq s = .next { s with txs := .idle, seq := .lineop (.lreq s.cr.chip z o) } := by
  simp [execTxReq, State.lineOffset, Config.zeroLineIsD0, zero, one, State.goto]

/-- The request of both lines is granted (45 R188, 20 R68). -/
theorem request_runs {chip : List Byte} {z o : Nat} {rest : List Answer} (hp : s.phase = .transmitting)
    (q : s.seq = .lineop (.lreq chip z o)) (script : s.answers = .ok :: rest) :
    Runs 1 s
      { s with
        stepIx := s.stepIx + 1, owned := true, lvl0 := .high, lvl1 := .high, seq := .txstep .init, answers := rest,
        draws := s.draws + 1 }
      [.op (.lreq chip z o)] := by
  refine Runs.shown ((step_lreq (.inr hp) q).trans (lineRequest_ok (answer_of_script script)) |>.trans ?_)
    (event_lineop (.inr hp) q)
  simp [State.grant, State.answered, State.entryDone, State.goto, script]

/-- From TX to the granted request (45 R187, R188). -/
theorem opening_runs {z o : Nat} {rest : List Answer} (hp : s.phase = .encoding) (q : s.seq = .stage .tx)
    (zero : s.cr.d0 = some z) (one : s.cr.d1 = some o) (script : s.answers = .ok :: rest) :
    Runs 3 s
      { s with
        phase := .transmitting, txs := .idle, stepIx := 1, owned := true, lvl0 := .high, lvl1 := .high,
        seq := .txstep .init, answers := rest, draws := s.draws + 1 }
      [.op (.lreq s.cr.chip z o)] := by
  have begun := Runs.silent (step_tx (.inl hp) q) (by simp [State.event, hp, q])
  have named := begun.trans (Runs.silent ((step_txReq (.inr rfl) rfl).trans (execTxReq_named zero one))
    (event_txstep (.inr rfl) rfl))
  exact named.trans (request_runs rfl rfl script)

/-- The settle hold (45 R190). -/
theorem settle_runs (hp : s.phase = .transmitting) (q : s.seq = .txstep .settle) :
    Runs 2002 s { s with i := 0, stepIx := s.stepIx + 1, timer := 0, seq := .txstep .pulse }
      (List.replicate Config.settleUs .tick) := by
  have begun : Runs 1 s (s.startHold .settle) [] := Runs.silent (step_txSettle (.inr hp) q) (event_txstep (.inr hp) q)
  exact begun.trans (hold_runs Config.settleUs hp rfl rfl)

/-- The initial transition and the settle hold (45 R189, R190). -/
theorem initial_runs {rest : List Answer} (hp : s.phase = .transmitting) (q : s.seq = .txstep .init)
    (entry : s.stepIx = 1) (owned : s.owned = true) (script : s.answers = .ok :: rest) :
    Runs 2004 s
      { s with
        lvl0 := .high, lvl1 := .high, i := 0, stepIx := s.stepIx + 2, timer := 0, seq := .txstep .pulse,
        answers := rest, draws := s.draws + 1 }
      (.op (.lsetb .high .high) :: List.replicate Config.settleUs .tick) := by
  have emitted : Runs 1 s (s.goto (.lineop (.lsetb .high .high))) [] :=
    Runs.silent (step_txInit (.inr hp) q) (event_txstep (.inr hp) q)
  have driven := emitted.trans (bothHigh_runs hp rfl owned (if_pos entry) script)
  exact driven.trans (settle_runs hp rfl)

/-- From TX to the first frame bit (45 R187 to R190). -/
theorem beginning_runs {z o : Nat} {rest : List Answer} (hp : s.phase = .encoding) (q : s.seq = .stage .tx)
    (zero : s.cr.d0 = some z) (one : s.cr.d1 = some o) (script : s.answers = .ok :: .ok :: rest) :
    Runs 2007 s
      { s with
        phase := .transmitting, txs := .idle, i := 0, stepIx := 3, timer := 0, owned := true, lvl0 := .high,
        lvl1 := .high, seq := .txstep .pulse, answers := rest, draws := s.draws + 2 }
      (.op (.lreq s.cr.chip z o) :: .op (.lsetb .high .high) :: List.replicate Config.settleUs .tick) := by
  have opened := opening_runs hp q zero one script
  exact opened.trans (initial_runs rfl rfl rfl rfl rfl)

/-- What txops shows, part by part (45 R187). -/
theorem shown_txops (chip : List Byte) (z o : Nat) (f : BitSeq) (p g : Nat) :
    (txops chip z o f p g).flatMap TxEntry.shown =
      Event.op (.lreq chip z o) :: Event.op (.lsetb .high .high) :: List.replicate Config.settleUs Event.tick ++
        ((f.flatMap (pulseEntries p g)).flatMap TxEntry.shown ++ [Event.op (.lsetb .high .high), .op .lrel]) := by
  simp [txops, TxEntry.shown]

end Sys2Proof.Machine
end

section
/-! What a step of ENCODING shows and leaves on the lines, how a step can end a run, and that a run under way always has
a next step (40 R122, R123). -/

namespace Sys2Proof.Machine

variable {s t : State}

/-! ### The encoding and the lines -/

/-- No operation of the encoding writes OWNED or a level (40 R122). -/
theorem EncodeStep.lines_eq (st : EncodeStep s t) : t.owned = s.owned ∧ t.lvl0 = s.lvl0 ∧ t.lvl1 = s.lvl1 := by
  cases st <;> exact ⟨rfl, rfl, rfl⟩

/-- A place of the encoding shows nothing on the line interface (40 R122). -/
theorem event_encodes (place : s.seq.encodes = true) : s.event = none := by
  unfold State.event
  cases s.phase with
  | ready | done => rfl
  | encoding | transmitting =>
    cases q : s.seq with
    | txstep n | lineop op | hold k | finish => simp [q, Seq.encodes] at place
    | _ => rfl

/-! ### How a step ends a run -/

/-- A step of the encoding ends the run by a FatalError only (40 R123). -/
theorem EncodeStep.fatal_of_done (st : EncodeStep s t) (h : s.running) (ended : t.phase = .done) :
    ∃ c, t = s.raiseFatal c := by
  have not_ended : s.phase ≠ .done := by rcases h with h | h <;> simp [h]
  cases st with
  | fatal c => exact ⟨c, rfl⟩
  | tx => cases ended
  | _ => exact absurd ended not_ended

/-- A step of the transmission ends the run at the end of RUN, or by the FatalError of a line operation (40 R123). -/
theorem TransmitStep.finish_or_fatal_of_done (st : TransmitStep s t) (h : s.running) (ended : t.phase = .done) :
    (s.seq = .finish ∧ t = s.endRun) ∨
    ∃ owned lvl0 lvl1 c, t = { s.answered with owned := owned, lvl0 := lvl0, lvl1 := lvl1 }.raiseFatal c := by
  have not_ended : s.phase ≠ .done := by rcases h with h | h <;> simp [h]
  cases st with
  | lineFail q failed owned lvl0 lvl1 c => exact .inr ⟨owned, lvl0, lvl1, c, rfl⟩
  | finish q => exact .inl ⟨q, rfl⟩
  | @holdEnd k => cases k <;> exact absurd ended not_ended
  | _ => exact absurd ended not_ended

/-! ### A next step -/

theorem appendChar_answers (bits : BitSeq) : ∃ t, s.appendChar bits = .next t := by
  unfold State.appendChar
  split <;> exact ⟨_, rfl⟩

/-- Every character of the literal has an operation, be it one that ends the run (30 R93, R94). -/
theorem step_character_answers (h : s.running) (q : s.seq = .literal) {ch : Byte} (r : s.rawChars[s.k]? = some ch) :
    ∃ t, step s = .next t := by
  cases b : charBits true s.hexmode ch with
  | none => exact ⟨_, step_char_illegal h q r b⟩
  | some bits =>
    rw [step_decoded h (c := .litchar9 (litCode s.hexmode ch)) (by simp [State.seqCode, q, r]) rfl]
    obtain append | ⟨-, skip⟩ :=
      exec_legal_character (s := s) ((litBits_decode s.hexmode ch).trans (congrArg some b))
    · exact append ▸ appendChar_answers bits
    · exact ⟨_, skip⟩

theorem writeFrame_answers (f : BitSeq) : ∃ t, s.writeFrame f = .next t := by
  unfold State.writeFrame
  split <;> exact ⟨_, rfl⟩

theorem takePreset_answers (id : BitVec 8) : ∃ t, s.takePreset id = .next t := by
  unfold State.takePreset
  split
  · exact ⟨_, rfl⟩
  · split <;> exact ⟨_, rfl⟩

/-- Whatever DATA holds, BUILD goes on after the pad or ends the run (42 R157, R160). -/
theorem execFieldPad_answers : ∃ t, execFieldPad s = .next t := by
  simp only [execFieldPad, Config.emptyDataOk, endBuild_true]
  split
  · exact ⟨_, rfl⟩
  · split
    · exact ⟨_, rfl⟩
    · split
      · exact ⟨_, rfl⟩
      · split <;> exact ⟨_, rfl⟩

/-- At every place of the encoding the step has a next state (40 R123; under EMPTY_DATA_OK, log 13). -/
theorem step_encodes_answers (h : s.running) (place : s.seq.encodes = true) : ∃ t, step s = .next t := by
  cases q : s.seq with
  | stage n =>
    cases n with
    | cfgchk => rw [step_cfgchk h q, execCfgchk]; split <;> exact ⟨_, rfl⟩
    | build => exact ⟨_, step_build h q⟩
    | par => exact ⟨_, step_par h q⟩
    | fval =>
      rw [step_fval h q, execFval]
      split
      · exact ⟨_, rfl⟩
      · split <;> exact ⟨_, rfl⟩
    | tx => exact ⟨_, step_tx h q⟩
  | mode =>
    cases r : s.cr.raw.isSome
    · exact ⟨_, step_mode_field h q r⟩
    · exact ⟨_, step_mode_raw h q r⟩
  | litPrefix =>
    by_cases hex : ∃ c1 rest, s.rawChars = 0x30 :: c1 :: rest ∧ (c1 = 0x78 ∨ c1 = 0x58)
    · obtain ⟨c1, rest, chars, c⟩ := hex
      exact ⟨_, step_prefix_hex h q chars c⟩
    · exact ⟨_, step_prefix_bin h q fun c1 rest chars => not_or.mp fun c => hex ⟨c1, rest, chars, c⟩⟩
  | literal =>
    cases r : s.rawChars[s.k]? with
    | none => exact ⟨_, step_literal_end h q r⟩
    | some ch => exact step_character_answers h q r
  | fstep n =>
    cases n with
    | resolve => rw [step_resolve h q, execFieldResolve]; split <;> exact ⟨_, rfl⟩
    | range => rw [step_range h q, execFieldRange]; split; exact ⟨_, rfl⟩; split <;> exact ⟨_, rfl⟩
    | compose => rw [step_compose h q, execFieldCompose, State.composeData]; split <;> exact ⟨_, rfl⟩
    | pad => rw [step_pad h q]; exact execFieldPad_answers
  | format => rw [step_format h q]; exact takePreset_answers _
  | parity => rw [step_parity h q]; exact writeFrame_answers _
  | txstep n | lineop op | hold k | finish => simp [q, Seq.encodes] at place

theorem lineRequest_answers : ∃ t, s.lineRequest = .next t := by
  obtain ok | fail := answer_ok_or_fail (s := s)
  · exact ⟨_, lineRequest_ok ok⟩
  · exact ⟨_, lineRequest_fail fail⟩

theorem lineSet_answers (a : Line) (v : Level) (owned : s.owned = true) : ∃ t, s.lineSet a v = .next t := by
  obtain ok | fail := answer_ok_or_fail (s := s)
  · exact ⟨_, lineSet_ok a v owned ok⟩
  · exact ⟨_, lineSet_fail a v owned fail⟩

theorem lineSetBoth_answers (vz vo : Level) (owned : s.owned = true) : ∃ t, s.lineSetBoth vz vo = .next t := by
  obtain ok | fail := answer_ok_or_fail (s := s)
  · exact ⟨_, lineSetBoth_ok vz vo owned ok⟩
  · exact ⟨_, lineSetBoth_fail vz vo owned fail⟩

theorem lineRelease_answers : ∃ t, s.lineRelease = .next t := by
  obtain ok | fail := answer_ok_or_fail (s := s)
  · exact ⟨_, lineRelease_ok ok⟩
  · exact ⟨_, lineRelease_fail fail⟩

/-- A configuration that CFGCHK passes names both lines (41 R131). -/
theorem offsets_of_check {r : ConfigRegs} (passed : r.check = none) : ∃ z o, r.d0 = some z ∧ r.d1 = some o := by
  unfold ConfigRegs.check at passed
  split at passed
  next z o zero one => exact ⟨z, o, zero, one⟩
  · cases passed

/-- At every place of the transmission the step has a next state: the lines are named, and owned where they are set
(40 R123, 20 R65, R69, R70). -/
theorem step_transmitting_answers (hp : s.phase = .transmitting) (h : s.inv) : ∃ t, step s = .next t := by
  obtain ⟨-, -, ⟨⟨passed, -⟩, -⟩, place⟩ := (inv_transmitting hp).mp h
  have h : s.running := .inr hp
  cases q : s.seq with
  | txstep n =>
    cases n with
    | req =>
      obtain ⟨z, o, zero, one⟩ := offsets_of_check passed
      exact ⟨_, (step_txReq h q).trans (execTxReq_named zero one)⟩
    | init => exact ⟨_, step_txInit h q⟩
    | settle => exact ⟨_, step_txSettle h q⟩
    | pulse =>
      cases r : s.frame[s.i]? with
      | none => exact ⟨_, step_pulse_end h q r⟩
      | some b => exact ⟨_, step_pulse h q r⟩
    | terminal => exact ⟨_, step_txEnd h q⟩
    | rel => exact ⟨_, step_txRel h q⟩
  | lineop op =>
    cases op with
    | lreq chip z o => rw [step_lreq h q]; exact lineRequest_answers
    | lset1 a v =>
      have owned : s.owned = true := by
        cases v <;>
        · simp only [State.transmittingInv, q] at place
          obtain ⟨⟨owned, -⟩, -⟩ := place
          exact owned
      rw [step_lset1 h q]; exact lineSet_answers a v owned
    | lsetb vz vo =>
      simp only [State.transmittingInv, q] at place
      obtain ⟨⟨owned, -⟩, -⟩ := place
      rw [step_lsetb h q]; exact lineSetBoth_answers vz vo owned
    | lrel => rw [step_lrel h q]; exact lineRelease_answers
  | hold k => exact ⟨_, step_hold h q⟩
  | finish => exact ⟨_, step_finish h q⟩
  | stage n | mode | litPrefix | literal | fstep n | format | parity => simp only [State.transmittingInv, q] at place

/-- In a run the step of a state of the invariant always has a next state (40 R123). -/
theorem step_running_answers (h : s.inv) (running : s.running) : ∃ t, step s = .next t := by
  obtain hp | hp := running
  · obtain ⟨-, -, -, place⟩ := (inv_encoding hp).mp h
    exact step_encodes_answers (.inl hp) (encodes_of_encodingInv place)
  · exact step_transmitting_answers hp h

end Sys2Proof.Machine
end

section
/-! Every run ends: ENCODING lowers the number of operations that are left up to TX, TRANSMITTING comes from entry to
entry of txops, and within an entry to its hold's end (40 R123). -/

namespace Sys2Proof.Machine

variable {s t : State}

/-- Where every step from `P` comes to `Q` or stays in `P` with a lower rank, a run comes to `Q`. -/
theorem run_reaches {P Q : State → Prop} {α : Type} [LT α] [WellFoundedLT α] (rank : State → α)
    (progress : ∀ s, P s → ∃ t, step s = .next t ∧ (Q t ∨ P t ∧ rank t < rank s)) (h : P s) :
    ∃ n t, core.run n s = .next t ∧ Q t := by
  induction r : rank s using WellFoundedLT.induction generalizing s with
  | _ a ih =>
    obtain ⟨t, hs, reached | ⟨again, lower⟩⟩ := progress s h
    · exact ⟨1, t, run_next hs 0, reached⟩
    · obtain ⟨n, u, run, reached⟩ := ih _ (r ▸ lower) again rfl
      exact ⟨n + 1, u, (run_next hs n).trans run, reached⟩

/-! ### ENCODING -/

/-- The most operations that a run in ENCODING still has before TX, where nothing ends it earlier (40 R121, 42 R141,
R151). -/
def State.stepsToTx (s : State) : Nat :=
  match s.seq with
  | .stage .cfgchk => s.rawChars.length + 11
  | .stage .build => s.rawChars.length + 10
  | .mode => s.rawChars.length + 9
  | .litPrefix => s.rawChars.length + 5
  | .literal => s.rawChars.length - s.k + 4
  | .fstep .resolve => 8
  | .format => 7
  | .fstep .range => 6
  | .fstep .compose => 5
  | .fstep .pad => 4
  | .stage .par => 3
  | .parity => 2
  | .stage .fval => 1
  | .stage .tx | .txstep _ | .lineop _ | .hold _ | .finish => 0

theorem handOver_stepsToTx {p : Seq} (q : (s.seq, p) ∈ handOvers) :
    ({ s with seq := p } : State).stepsToTx < s.stepsToTx := by
  simp only [handOvers, List.mem_cons, Prod.mk.injEq, List.not_mem_nil, or_false] at q
  rcases q with ⟨q, rfl⟩ | ⟨q, rfl⟩ | ⟨q, rfl⟩ | ⟨q, rfl⟩ | ⟨q, rfl⟩ | ⟨q, rfl⟩ | ⟨q, rfl⟩ <;>
    simp [State.stepsToTx, State.rawChars, q]

/-- A step of the encoding leaves ENCODING or comes nearer to TX (40 R121). -/
theorem EncodeStep.leaves_or_nearer (st : EncodeStep s t) (hp : s.phase = .encoding) :
    t.phase = .transmitting ∨ t.phase = .done ∨ t.phase = .encoding ∧ t.stepsToTx < s.stepsToTx := by
  cases st with
  | fatal c => exact .inr (.inl rfl)
  | tx q => exact .inl rfl
  | handOver q => exact .inr (.inr ⟨hp, handOver_stepsToTx q⟩)
  | literalStart hex q inside =>
    refine .inr (.inr ⟨hp, ?_⟩)
    simp only [State.stepsToTx, q, State.rawChars]
    omega
  | character q char legal fits =>
    have inside : s.k < s.rawChars.length := (List.getElem?_eq_some_iff.mp char).1
    refine .inr (.inr ⟨hp, ?_⟩)
    simp only [State.stepsToTx, q, State.rawChars] at inside ⊢
    omega
  | cfgchk q | build q | overrides q | presetWidths q | compose q | pad q | par q | parity q | fval q =>
    exact .inr (.inr ⟨hp, by simp [State.stepsToTx, State.rawChars, q]⟩)

/-! ### TRANSMITTING -/

/-- The steps left within entry STEP of txops: a hold counts down, the settle hold and the pulse loop begin (45 R187,
R199). -/
def State.stepsInEntry (s : State) : Nat :=
  match s.seq with
  | .txstep .settle => Config.settleUs + 1
  | .txstep .pulse => 2
  | .txstep .req | .txstep .init | .txstep .terminal | .txstep .rel => 1
  | .hold _ => s.timer
  | .stage _ | .mode | .litPrefix | .literal | .fstep _ | .format | .parity | .lineop _ | .finish => 0

/-- The entries of txops that are left, then the steps left within entry STEP (45 R187). -/
def State.txRank (s : State) : ℕ ×ₗ ℕ := toLex (4 * s.frame.length + 5 - s.stepIx, s.stepsInEntry)

/-- Inside a pulse I is the index of a frame bit (45 R187). -/
theorem inPulse_inside {a : Line} (h : s.inPulse a) : s.i < s.frame.length := by
  obtain ⟨-, selects⟩ := h
  obtain ⟨b, bit, -⟩ := Option.map_eq_some_iff.mp selects
  exact (List.getElem?_eq_some_iff.mp bit).1

/-- Until the last entry is performed STEP is the index of an entry (45 R187). -/
theorem stepIx_lt (h : s.inv) (hp : s.phase = .transmitting) (q : s.seq ≠ .finish) :
    s.stepIx < 4 * s.frame.length + 5 := by
  obtain ⟨-, ⟨-, -, -, ilen⟩, -, place⟩ := (inv_transmitting hp).mp h
  cases p : s.seq with
  | txstep n =>
    cases n <;> simp only [State.transmittingInv, p] at place
    case req => obtain ⟨-, -, -, entry, -⟩ := place; omega
    case pulse => obtain ⟨-, entry, -⟩ := place; omega
    case init | settle | terminal | rel => obtain ⟨-, -, entry, -⟩ := place; omega
  | lineop op =>
    rcases op with ⟨_, _, _⟩ | ⟨a, _ | _⟩ | ⟨_, _⟩ | _ <;> simp only [State.transmittingInv, p] at place
    · obtain ⟨-, -, -, -, -, entry, -⟩ := place; omega
    · obtain ⟨-, -, entry, -⟩ := place; omega
    · obtain ⟨-, pulse, entry, -⟩ := place
      have := inPulse_inside pulse; omega
    · obtain ⟨-, -, -, -, ⟨entry, -⟩ | ⟨entry, -⟩⟩ := place <;> omega
    · obtain ⟨-, -, entry, -⟩ := place; omega
  | hold k =>
    cases k <;> simp only [State.transmittingInv, p] at place
    case settle | pulse => obtain ⟨-, -, entry, -⟩ := place; omega
    case space =>
      obtain ⟨-, ⟨a, pulse⟩, entry, -⟩ := place
      have := inPulse_inside pulse; omega
  | finish => exact absurd p q
  | stage n | mode | litPrefix | literal | fstep n | format | parity => simp only [State.transmittingInv, p] at place

theorem nearer_of_entryDone (h : s.inv) (hp : s.phase = .transmitting) (q : s.seq ≠ .finish)
    (frame : t.frame = s.frame) (entry : t.stepIx = s.stepIx + 1) : t.txRank < s.txRank := by
  have := stepIx_lt h hp q
  exact Prod.Lex.toLex_lt_toLex.mpr (.inl (by simp only [frame, entry]; omega))

theorem nearer_of_stepsInEntry (frame : t.frame = s.frame) (entry : t.stepIx = s.stepIx)
    (fewer : t.stepsInEntry < s.stepsInEntry) : t.txRank < s.txRank :=
  Prod.Lex.toLex_lt_toLex.mpr (.inr ⟨by simp only [frame, entry], fewer⟩)

/-- A step of the transmission ends the run, performs entry STEP of txops or comes nearer to its end (45 R187). -/
theorem TransmitStep.ends_or_nearer (st : TransmitStep s t) (h : s.inv) (hp : s.phase = .transmitting) :
    t.phase = .done ∨ t.phase = .transmitting ∧ t.txRank < s.txRank := by
  cases st with
  | lineFail | finish => exact .inl rfl
  | req q | init q | settle q | pulse q | pulsesEnd q | terminal q | rel q =>
    exact .inr ⟨hp, nearer_of_stepsInEntry rfl rfl (by simp [State.stepsInEntry, State.holdUs, q])⟩
  | tick q runs =>
    exact .inr ⟨hp, nearer_of_stepsInEntry rfl rfl (by simp only [State.stepsInEntry, q]; omega)⟩
  | lreq q | lset1 q | lsetb q | lrel q => exact .inr ⟨hp, nearer_of_entryDone h hp (by simp [q]) rfl rfl⟩
  | @holdEnd k q =>
    have unfinished : s.seq ≠ .finish := by simp [q]
    cases k <;> exact .inr ⟨hp, nearer_of_entryDone h hp unfinished rfl rfl⟩

/-! ### The whole run -/

/-- From ENCODING a run comes to TRANSMITTING or to DONE (40 R121). -/
theorem encoding_leaves (h : s.inv) (hp : s.phase = .encoding) :
    ∃ n t, core.run n s = .next t ∧ t.inv ∧ (t.phase = .transmitting ∨ t.phase = .done) := by
  refine run_reaches State.stepsToTx (P := fun s => s.inv ∧ s.phase = .encoding) ?_ ⟨h, hp⟩
  rintro s ⟨h, hp⟩
  obtain ⟨-, -, -, place⟩ := (inv_encoding hp).mp h
  obtain ⟨t, hs⟩ := step_running_answers h (.inl hp)
  have st := encodeStep_of_step (.inl hp) (encodes_of_encodingInv place) hs
  have kept := st.keeps_inv hp h
  obtain left | left | ⟨stays, nearer⟩ := st.leaves_or_nearer hp
  · exact ⟨t, hs, .inl ⟨kept, .inl left⟩⟩
  · exact ⟨t, hs, .inl ⟨kept, .inr left⟩⟩
  · exact ⟨t, hs, .inr ⟨⟨kept, stays⟩, nearer⟩⟩

/-- From TRANSMITTING a run comes to DONE (40 R123). -/
theorem transmission_ends (h : s.inv) (hp : s.phase = .transmitting) :
    ∃ n t, core.run n s = .next t ∧ t.inv ∧ t.phase = .done := by
  refine run_reaches State.txRank (P := fun s => s.inv ∧ s.phase = .transmitting) ?_ ⟨h, hp⟩
  rintro s ⟨h, hp⟩
  obtain ⟨-, -, -, place⟩ := (inv_transmitting hp).mp h
  obtain ⟨t, hs⟩ := step_running_answers h (.inr hp)
  have st := transmitStep_of_step (.inr hp) (not_encodes_of_transmittingInv place) hs
  have kept := st.keeps_inv hp h
  obtain ended | ⟨stays, nearer⟩ := st.ends_or_nearer h hp
  · exact ⟨t, hs, .inl ⟨kept, ended⟩⟩
  · exact ⟨t, hs, .inr ⟨⟨kept, stays⟩, nearer⟩⟩

/-- A run of n steps and then one of m is a run of n + m. -/
theorem run_add {n m : Nat} {u : State} (first : core.run n s = .next t) (second : core.run m t = .next u) :
    core.run (n + m) s = .next u := by
  obtain ⟨run, -⟩ := Runs.trans ⟨first, rfl⟩ ⟨second, rfl⟩
  exact run

/-- A run under way comes to DONE (40 R123). -/
theorem run_ends (h : s.inv) (running : s.running) : ∃ n t, core.run n s = .next t ∧ t.inv ∧ t.phase = .done := by
  obtain hp | hp := running
  · obtain ⟨n, t, encoded, kept, transmitting | done⟩ := encoding_leaves h hp
    · obtain ⟨m, u, transmitted, ended⟩ := transmission_ends kept transmitting
      exact ⟨n + m, u, run_add encoded transmitted, ended⟩
    · exact ⟨n, t, encoded, kept, done⟩
  · exact transmission_ends h hp

/-- In DONE the status is 0 or 2 (10 R42). -/
theorem exit_of_done (h : s.inv) (hp : s.phase = .done) : s.exit = some 0 ∨ s.exit = some 2 := by
  obtain ⟨status, -⟩ := h
  simp only [State.statusInv, hp] at status
  obtain ⟨success, -⟩ | ⟨fatal, -⟩ := status
  · exact .inl success
  · exact .inr fatal

end Sys2Proof.Machine
end

section
/-! The encoding, part by part: what each part of the pipeline computes from the configuration, with nothing shown and the
lines left alone (40 R121, R122, 41 to 44). -/

namespace Sys2Proof.Machine

variable {s t u : State} {α β : Type} {n m : Nat}

/-! ### Quiet runs -/

/-- At most `n` steps lead from `s` to `t`; they show nothing and change no register, no ownership and no level
(40 R122). -/
def Quiet (n : Nat) (s t : State) : Prop :=
  ∃ k ≤ n, Runs k s t [] ∧ t.cr = s.cr ∧ t.owned = s.owned ∧ t.lvl0 = s.lvl0 ∧ t.lvl1 = s.lvl1

theorem Quiet.mono (h : Quiet n s t) (le : n ≤ m) : Quiet m s t := by
  obtain ⟨k, bound, same⟩ := h
  exact ⟨k, bound.trans le, same⟩

theorem Quiet.cr_eq (h : Quiet n s t) : t.cr = s.cr := by
  obtain ⟨_, _, _, cr, _⟩ := h
  exact cr

theorem Quiet.trans (first : Quiet n s t) (second : Quiet m t u) : Quiet (n + m) s u := by
  obtain ⟨k, bound, run, cr, owned, lvl0, lvl1⟩ := first
  obtain ⟨k', bound', run', cr', owned', lvl0', lvl1'⟩ := second
  exact ⟨k + k', Nat.add_le_add bound bound', run.trans run', cr'.trans cr, owned'.trans owned, lvl0'.trans lvl0,
    lvl1'.trans lvl1⟩

/-- A step of the encoding is quiet (40 R122). -/
theorem Quiet.of_step (h : s.running) (place : s.seq.encodes = true) (hs : step s = .next t) : Quiet 1 s t := by
  have st := encodeStep_of_step h place hs
  obtain ⟨cr, -⟩ := st.frame_eq
  exact ⟨1, le_rfl, Runs.silent hs (event_encodes place), cr, st.lines_eq⟩

/-! ### What a part of the pipeline computes -/

/-- A FatalError with this cause has ended the run (60 R230). -/
def State.failed (s : State) (c : Cause) : Prop :=
  s.phase = .done ∧ s.exit = some 2 ∧ s.cause = some c ∧ s.diag.length = 1

/-- Within `n` quiet steps the block computes `r`: it comes to a state that holds the value, or to DONE by the cause. -/
def Computes (n : Nat) (s : State) (r : Except Cause α) (holds : State → α → Prop) : Prop :=
  ∃ t, Quiet n s t ∧
    match r with
    | .ok a => holds t a
    | .error c => t.failed c

theorem Computes.mono {r : Except Cause α} {holds : State → α → Prop} (h : Computes n s r holds) (le : n ≤ m) :
    Computes m s r holds := by
  obtain ⟨t, quiet, result⟩ := h
  exact ⟨t, quiet.mono le, result⟩

/-- A quiet run, and what is computed after it. -/
theorem Computes.after {r : Except Cause α} {holds : State → α → Prop} (quiet : Quiet n s t)
    (h : Computes m t r holds) : Computes (n + m) s r holds := by
  obtain ⟨u, quiet', result⟩ := h
  exact ⟨u, quiet.trans quiet', result⟩

/-- A step of the encoding, and what is computed after it. -/
theorem Computes.of_step {r : Except Cause α} {holds : State → α → Prop} (hp : s.phase = .encoding)
    (place : s.seq.encodes = true) (hs : step s = .next t) (h : Computes n t r holds) : Computes (n + 1) s r holds :=
  Nat.add_comm 1 n ▸ Computes.after (Quiet.of_step (.inl hp) place hs) h

/-- The last step of a part. -/
theorem Computes.value {a : α} {holds : State → α → Prop} (hp : s.phase = .encoding) (place : s.seq.encodes = true)
    (hs : step s = .next t) (h : holds t a) : Computes 1 s (.ok a) holds :=
  ⟨t, Quiet.of_step (.inl hp) place hs, h⟩

/-- A FatalError ends the run with its cause (60 R230). -/
theorem Computes.fatal {c : Cause} {holds : State → α → Prop} (hp : s.phase = .encoding)
    (place : s.seq.encodes = true) (hs : step s = .next (s.raiseFatal c)) : Computes (n + 1) s (.error c) holds :=
  ⟨s.raiseFatal c, (Quiet.of_step (.inl hp) place hs).mono (Nat.le_add_left 1 n), rfl, rfl, rfl, rfl⟩

/-- After a part has computed its value the next part goes on from it; after its FatalError there is no next part. -/
theorem Computes.bind {a : Except Cause α} {r : Except Cause β} {holds : State → α → Prop} {holds' : State → β → Prop}
    (first : Computes n s a holds) (failure : ∀ c, a = .error c → r = .error c)
    (second : ∀ v t, a = .ok v → t.cr = s.cr → holds t v → Computes m t r holds') : Computes (n + m) s r holds' := by
  obtain ⟨t, quiet, result⟩ := first
  cases a with
  | ok v => exact Computes.after quiet (second v t rfl quiet.cr_eq result)
  | error c =>
    rw [failure c rfl]
    exact ⟨t, quiet.mono (Nat.le_add_right n m), result⟩

/-! ### The literal -/

/-- BUILD is at its end with these data, which are within capacity (42 R140, R158). -/
def State.hasData (s : State) (d : BitSeq) : Prop :=
  s.phase = .encoding ∧ s.seq = .stage .par ∧ s.data = d ∧ d.length ≤ Config.dataCap

/-- The loop over the characters parses those from K on: by induction on them (42 R141). -/
theorem literal_computes (chars : List Byte) (hp : s.phase = .encoding) (q : s.seq = .literal)
    (left : s.rawChars.drop s.k = chars) (fits : s.data.length ≤ Config.dataCap) :
    Computes (chars.length + 1) s (parseChars true s.hexmode chars s.data) State.hasData := by
  have place : s.seq.encodes = true := by rw [q]; rfl
  induction chars generalizing s with
  | nil =>
    have ended : s.rawChars[s.k]? = none := by simpa using left
    exact .value hp place (step_literal_end (.inl hp) q ended) ⟨hp, rfl, rfl, fits⟩
  | cons ch rest ih =>
    have char : s.rawChars[s.k]? = some ch := by rw [← List.head?_drop, left]; rfl
    have left' : s.rawChars.drop (s.k + 1) = rest := by rw [← List.tail_drop, left]; rfl
    cases b : charBits true s.hexmode ch with
    | none =>
      simp only [parseChars, b]
      exact .fatal hp place (step_char_illegal (.inl hp) q char b)
    | some bits =>
      have appended := step_char_legal (.inl hp) q char b fits
      by_cases room : Config.dataCap < s.data.length + bits.length
      · simp only [parseChars, b, if_pos room]
        exact .fatal hp place (appended.trans (appendChar_overflow room))
      · simp only [parseChars, b, if_neg room]
        have room : s.data.length + bits.length ≤ Config.dataCap := Nat.not_lt.mp room
        exact .of_step hp place (appended.trans (appendChar_fits room)) (ih hp rfl left' (by simpa using room) rfl)

/-- A literal that begins with `0x` or `0X` is parsed in hex mode from its third character on (30 R92). -/
theorem parseLiteral_hex {c1 : Byte} (rest : List Byte) (c : c1 = 0x78 ∨ c1 = 0x58) :
    parseLiteral true (0x30 :: c1 :: rest) = parseChars true true rest [] := by
  simp only [parseLiteral, true_and, if_pos c]

/-- Any other literal is parsed in binary mode from its first character on (30 R92). -/
theorem parseLiteral_bin {l : List Byte} (no_hex : ∀ c1 rest, l = 0x30 :: c1 :: rest → c1 ≠ 0x78 ∧ c1 ≠ 0x58) :
    parseLiteral true l = parseChars true false l [] := by
  unfold parseLiteral
  split
  next c0 c1 rest =>
    refine if_neg ?_
    rintro ⟨rfl, c⟩
    obtain ⟨n78, n58⟩ := no_hex c1 rest rfl
    exact c.elim n78 n58
  · rfl

/-- The first two characters select the mode, and the characters from K on are parsed in it (42 R141, R142). -/
theorem litPrefix_computes (hp : s.phase = .encoding) (q : s.seq = .litPrefix) (empty : s.data = []) :
    Computes (s.rawChars.length + 2) s (parseLiteral true s.rawChars) State.hasData := by
  have place : s.seq.encodes = true := by rw [q]; rfl
  have fits : s.data.length ≤ Config.dataCap := by rw [empty]; exact Nat.zero_le _
  by_cases hex : ∃ c1 rest, s.rawChars = 0x30 :: c1 :: rest ∧ (c1 = 0x78 ∨ c1 = 0x58)
  · obtain ⟨c1, rest, chars, c⟩ := hex
    have digits := literal_computes (s := { s with hexmode := true, k := 2, seq := .literal }) rest hp rfl
      (congrArg (List.drop 2) chars) fits
    rw [chars, parseLiteral_hex rest c, ← empty]
    exact (digits.of_step hp place (step_prefix_hex (.inl hp) q chars c)).mono (by simp)
  · have no_hex (c1 : Byte) (rest : List Byte) (chars : s.rawChars = 0x30 :: c1 :: rest) :
        c1 ≠ 0x78 ∧ c1 ≠ 0x58 := not_or.mp fun c => hex ⟨c1, rest, chars, c⟩
    have digits := literal_computes (s := { s with hexmode := false, k := 0, seq := .literal }) s.rawChars hp rfl rfl fits
    rw [parseLiteral_bin no_hex, ← empty]
    exact digits.of_step hp place (step_prefix_bin (.inl hp) q no_hex)

/-! ### The fields -/

/-- Before FIELD.RANGE with these widths (42 R153). -/
def State.hasWidths (s : State) (w : Nat × Nat) : Prop :=
  s.phase = .encoding ∧ s.seq = .fstep .range ∧ s.fb = w.1 ∧ s.cb = w.2

theorem widths_of_overrides {r : ConfigRegs} {a b : Nat} (facility : r.facilityBits = some a)
    (card : r.cardBits = some b) : r.widths = .ok (a, b) := by
  simp [ConfigRegs.widths, facility, card]

theorem widths_of_preset {r : ConfigRegs} {pf pc : Nat} (supported : preset r.format = some (pf, pc)) :
    r.widths = .ok (r.facilityBits.getD pf, r.cardBits.getD pc) := by
  cases facility : r.facilityBits <;> cases card : r.cardBits <;>
    simp [ConfigRegs.widths, facility, card, supported]

/-- FORMAT gives the widths where an override is absent (42 R153, R154). -/
theorem format_computes (hp : s.phase = .encoding) (q : s.seq = .format)
    (needed : s.cr.facilityBits = none ∨ s.cr.cardBits = none) : Computes 1 s s.cr.widths State.hasWidths := by
  have place : s.seq.encodes = true := by rw [q]; rfl
  have taken := step_format (.inl hp) q
  cases supported : preset s.cr.format with
  | some w =>
    obtain ⟨pf, pc⟩ := w
    rw [State.takePreset, supported] at taken
    rw [widths_of_preset supported]
    exact .value hp place taken ⟨hp, rfl, rfl, rfl⟩
  | none =>
    have unsupported : s.cr.widths = .error .format := by
      rcases needed with absent | absent
      · simp [ConfigRegs.widths, absent, supported]
      · cases facility : s.cr.facilityBits <;> simp [ConfigRegs.widths, facility, absent, supported]
    have partial_overrides : s.widthsExplicit = false := by
      rcases needed with absent | absent <;> simp [State.widthsExplicit, absent]
    rw [State.takePreset, supported, partial_overrides] at taken
    rw [unsupported]
    exact .fatal hp place taken

/-- FIELD.RESOLVE takes both overrides, or FORMAT is decoded (42 R153). -/
theorem resolve_computes (hp : s.phase = .encoding) (q : s.seq = .fstep .resolve) :
    Computes 2 s s.cr.widths State.hasWidths := by
  have place : s.seq.encodes = true := by rw [q]; rfl
  have resolved := step_resolve (.inl hp) q
  unfold execFieldResolve at resolved
  split at resolved
  next a b facility card =>
    rw [widths_of_overrides facility card]
    exact (Computes.value hp place resolved ⟨hp, rfl, rfl, rfl⟩).mono (by decide)
  next absent =>
    have needed : s.cr.facilityBits = none ∨ s.cr.cardBits = none := by
      cases facility : s.cr.facilityBits with
      | none => exact .inl rfl
      | some a =>
        cases card : s.cr.cardBits with
        | none => exact .inr rfl
        | some b => exact (absent a b facility card).elim
    exact (format_computes (s := s.goto .format) hp rfl needed).of_step hp place resolved

/-- The data sequence after FIELD.PAD (42 R157). -/
def ConfigRegs.padded (r : ConfigRegs) (d : BitSeq) : Except Cause BitSeq :=
  match r.frameBits with
  | none => .ok d
  | some e =>
    if r.parity ≠ 0 then .ok d
    else if e < d.length then .error .padShort
    else if Config.dataCap < e then .error .padCap
    else .ok (zeros (e - d.length) ++ d)

/-- The data sequence of field mode, sub-step by sub-step (42 R155 to R157). -/
theorem fieldData_of_widths {r : ConfigRegs} {fb cb : Nat} (widths : r.widths = .ok (fb, cb)) :
    r.fieldData =
      if ¬ (r.facility < 2 ^ fb ∧ r.card < 2 ^ cb) then .error .fieldRange
      else if Config.dataCap < fb + cb then .error .capacity
      else r.padded (msbFirst r.facility fb ++ msbFirst r.card cb) := by
  cases expected : r.frameBits <;>
    simp only [ConfigRegs.fieldData, widths, ConfigRegs.padded, expected, List.length_append, msbFirst_length]

/-- FIELD.PAD (42 R157). -/
theorem pad_computes (hp : s.phase = .encoding) (q : s.seq = .fstep .pad) (fits : s.data.length ≤ Config.dataCap) :
    Computes 1 s (s.cr.padded s.data) State.hasData := by
  have place : s.seq.encodes = true := by rw [q]; rfl
  have padded := step_pad (.inl hp) q
  simp only [execFieldPad, Config.emptyDataOk, endBuild_true, State.dlen] at padded
  cases expected : s.cr.frameBits with
  | none =>
    simp only [expected, ConfigRegs.padded] at padded ⊢
    exact .value hp place padded ⟨hp, rfl, rfl, fits⟩
  | some e =>
    simp only [expected, ConfigRegs.padded] at padded ⊢
    by_cases parity : s.cr.parity ≠ 0
    · rw [if_pos parity] at padded ⊢
      exact .value hp place padded ⟨hp, rfl, rfl, fits⟩
    rw [if_neg parity] at padded ⊢
    by_cases short : e < s.data.length
    · rw [if_pos short] at padded ⊢
      exact .fatal hp place padded
    rw [if_neg short] at padded ⊢
    by_cases long : Config.dataCap < e
    · rw [if_pos long] at padded ⊢
      exact .fatal hp place padded
    rw [if_neg long] at padded ⊢
    exact .value hp place padded ⟨hp, rfl, rfl, by simp; omega⟩

/-- FIELD.COMPOSE and FIELD.PAD (42 R156, R157). -/
theorem compose_computes (hp : s.phase = .encoding) (q : s.seq = .fstep .compose) :
    Computes 2 s
      (if Config.dataCap < s.fb + s.cb then .error .capacity
        else s.cr.padded (msbFirst s.cr.facility s.fb ++ msbFirst s.cr.card s.cb))
      State.hasData := by
  have place : s.seq.encodes = true := by rw [q]; rfl
  have composed : step s = s.composeData := step_compose (.inl hp) q
  unfold State.composeData at composed
  by_cases long : Config.dataCap < s.fb + s.cb
  · rw [if_pos long] at composed ⊢
    exact .fatal hp place composed
  · rw [if_neg long] at composed ⊢
    have fits : (msbFirst s.cr.facility s.fb ++ msbFirst s.cr.card s.cb).length ≤ Config.dataCap := by simpa using long
    exact .of_step hp place composed (pad_computes hp rfl fits)

/-- Both values fit their widths (42 R155). -/
theorem execFieldRange_fits (fits : s.cr.facility < 2 ^ s.fb ∧ s.cr.card < 2 ^ s.cb) :
    execFieldRange s = .next (s.goto (.fstep .compose)) := by
  obtain ⟨facility, card⟩ := fits
  rw [execFieldRange, if_neg (not_not_intro facility), if_neg (not_not_intro card)]

/-- A value does not fit its width (42 R155). -/
theorem execFieldRange_exceeds (exceeds : ¬ (s.cr.facility < 2 ^ s.fb ∧ s.cr.card < 2 ^ s.cb)) :
    execFieldRange s = .next (s.raiseFatal .fieldRange) := by
  by_cases facility : s.cr.facility < 2 ^ s.fb
  · have card : ¬ s.cr.card < 2 ^ s.cb := fun card => exceeds ⟨facility, card⟩
    rw [execFieldRange, if_neg (not_not_intro facility), if_pos card]
  · rw [execFieldRange, if_pos facility]

/-- FIELD.RANGE, FIELD.COMPOSE and FIELD.PAD make the data sequence (42 R155 to R157). -/
theorem range_computes {w : Nat × Nat} (widths : s.cr.widths = .ok w) (h : s.hasWidths w) :
    Computes 3 s s.cr.fieldData State.hasData := by
  obtain ⟨fb, cb⟩ := w
  obtain ⟨hp, q, rfl, rfl⟩ := h
  have place : s.seq.encodes = true := by rw [q]; rfl
  have ranged := step_range (.inl hp) q
  rw [fieldData_of_widths widths]
  by_cases range : s.cr.facility < 2 ^ s.fb ∧ s.cr.card < 2 ^ s.cb
  · rw [if_neg (not_not_intro range)]
    exact .of_step hp place (ranged.trans (execFieldRange_fits range))
      (compose_computes (s := s.goto (.fstep .compose)) hp rfl)
  · rw [if_pos range]
    exact .fatal hp place (ranged.trans (execFieldRange_exceeds range))

/-- The data sequence of field mode (42 R151). -/
theorem fieldData_computes (hp : s.phase = .encoding) (q : s.seq = .fstep .resolve) :
    Computes 5 s s.cr.fieldData State.hasData :=
  (resolve_computes hp q).bind (fun c failure => by rw [ConfigRegs.fieldData, failure])
    fun w t widths cr held => cr ▸ range_computes (cr ▸ widths) held

/-! ### BUILD -/

/-- MODE1 selects the literal or the fields (42 R140). -/
theorem mode_computes (hp : s.phase = .encoding) (q : s.seq = .mode) (empty : s.data = []) :
    Computes (s.rawChars.length + 6) s s.cr.dataOf State.hasData := by
  have place : s.seq.encodes = true := by rw [q]; rfl
  cases raw : s.cr.raw with
  | none =>
    have field := step_mode_field (.inl hp) q (by rw [raw]; rfl)
    rw [ConfigRegs.dataOf, raw]
    exact ((fieldData_computes (s := s.goto (.fstep .resolve)) hp rfl).of_step hp place field).mono (by omega)
  | some l =>
    have handed := step_mode_raw (.inl hp) q (by rw [raw]; rfl)
    have chars : s.rawChars = l := by rw [State.rawChars, raw]; rfl
    have literal : Computes (s.rawChars.length + 3) s (parseLiteral true s.rawChars) State.hasData :=
      (litPrefix_computes (s := s.goto .litPrefix) hp rfl empty).of_step hp place handed
    rw [ConfigRegs.dataOf, raw, ← chars]
    exact literal.mono (by omega)

/-- BUILD makes the data sequence of the configuration (42 R140). -/
theorem build_computes (hp : s.phase = .encoding) (q : s.seq = .stage .build) :
    Computes (s.rawChars.length + 7) s s.cr.dataOf State.hasData := by
  have selected := mode_computes (s := { s with
    data := [], mode := if s.cr.raw.isSome then .raw else .field, seq := .mode }) hp rfl rfl
  exact selected.of_step hp (by rw [q]; rfl) (step_build (.inl hp) q)

/-! ### The frame -/

/-- The gate has passed with this frame (44 R180). -/
def State.hasFrame (s : State) (f : BitSeq) : Prop := s.phase = .encoding ∧ s.seq = .stage .tx ∧ s.frame = f

/-- A frame before the gate and after it (44 R180). -/
def ConfigRegs.gated (r : ConfigRegs) (f : BitSeq) : Except Cause BitSeq :=
  match r.frameBits with
  | none => .ok f
  | some e => if e = f.length then .ok f else .error .frameLen

/-- The frame of a configuration that CFGCHK passes is that of its data behind the gate (40 R121). -/
theorem frameOf_of_data {r : ConfigRegs} {d : BitSeq} (passed : r.check = none) (data : r.dataOf = .ok d) :
    r.frameOf = r.gated (frameOfData r.parity d) := by
  cases expected : r.frameBits <;> simp only [ConfigRegs.frameOf, passed, data, ConfigRegs.gated, expected]

/-- FVAL (44 R180). -/
theorem fval_computes (hp : s.phase = .encoding) (q : s.seq = .stage .fval) :
    Computes 1 s (s.cr.gated s.frame) State.hasFrame := by
  have place : s.seq.encodes = true := by rw [q]; rfl
  have gated := step_fval (.inl hp) q
  cases expected : s.cr.frameBits with
  | none =>
    simp only [execFval, expected, ConfigRegs.gated] at gated ⊢
    exact .value hp place gated ⟨hp, rfl, rfl⟩
  | some e =>
    simp only [execFval, expected, ConfigRegs.gated] at gated ⊢
    by_cases equal : e = s.frame.length
    · rw [if_neg (show ¬ e ≠ s.flen from not_not_intro equal)] at gated
      rw [if_pos equal]
      exact .value hp place gated ⟨hp, rfl, rfl⟩
    · rw [if_pos (show e ≠ s.flen from equal)] at gated
      rw [if_neg equal]
      exact .fatal hp place gated

/-- The parity encoder and the gate make the frame of the data, which fits (43 R170, R175, 44 R180). -/
theorem par_computes {d : BitSeq} (h : s.hasData d) :
    Computes 3 s (s.cr.gated (frameOfData s.cr.parity d)) State.hasFrame := by
  obtain ⟨hp, q, rfl, fits⟩ := h
  have frame_fits : (frameOfData s.cr.parity s.data).length ≤ Config.frameCap :=
    (frameOfData_length s.cr.parity s.data).trans ((Nat.add_le_add_right fits 2).trans (by decide))
  have written := (step_parity (s := { s with frame := [], seq := .parity }) (.inl hp) rfl).trans
    (writeFrame_fits frame_fits)
  exact .of_step hp (by rw [q]; rfl) (step_par (.inl hp) q) (.of_step hp rfl written (fval_computes hp rfl))

/-- From CFGCHK the block computes the frame of its configuration (40 R121). -/
theorem cfgchk_computes (hp : s.phase = .encoding) (q : s.seq = .stage .cfgchk) :
    Computes (s.rawChars.length + 12) s s.cr.frameOf State.hasFrame := by
  have place : s.seq.encodes = true := by rw [q]; rfl
  have checked := step_cfgchk (.inl hp) q
  cases check : s.cr.check with
  | some c =>
    rw [execCfgchk, check] at checked
    rw [ConfigRegs.frameOf, check]
    exact .fatal hp place checked
  | none =>
    rw [execCfgchk, check] at checked
    have built : Computes (s.rawChars.length + 8) s s.cr.dataOf State.hasData :=
      (build_computes (s := s.goto (.stage .build)) hp rfl).of_step hp place checked
    refine (built.bind (m := 3) (fun c failure => ?_) fun d t data cr held => ?_).mono (by omega)
    · rw [ConfigRegs.frameOf, check, failure]
    · rw [frameOf_of_data check data, ← cr]
      exact par_computes held

end Sys2Proof.Machine
end

section
/-! Proofs of the statements about the run pipeline (40). -/

namespace Sys2Proof.Proofs

open Sys2Proof.Machine

/-- Settles O56: part by part, the literal by induction on its characters. -/
theorem encodingComputesTheFrame : Obligations.EncodingComputesTheFrame := by
  unfold Obligations.EncodingComputesTheFrame
  intro s hp q
  obtain ⟨t, ⟨n, bound, ⟨run, shown⟩, cr, owned, lvl0, lvl1⟩, result⟩ := cfgchk_computes hp q
  refine ⟨n, t, bound, run, shown, cr, owned, lvl0, lvl1, ?_⟩
  cases frame : s.cr.frameOf with
  | ok f => rw [frame] at result; exact result
  | error c => rw [frame] at result; exact result

/-- Settles O57: the beginning of the transmission, then by induction the frame bits and the end. -/
theorem transmissionPerformsTxops : Obligations.TransmissionPerformsTxops := by
  unfold Obligations.TransmissionPerformsTxops
  intro s z o rest hp q zero one script
  have answers : s.answers = .ok :: .ok :: (List.replicate (2 * s.frame.length + 2) Answer.ok ++ rest) := script
  have begun := beginning_runs hp q zero one answers
  have sent := begun.trans (pulses_runs (sent := []) s.frame rfl rfl rfl rfl ⟨rfl, rfl, rfl⟩ rfl rfl rfl)
  have steps (n : Nat) : 2013 + n = 2007 + (n + 6) := by omega
  have draws (n : Nat) : s.draws + (n + 4) = s.draws + 2 + (n + 2) := by omega
  rw [shown_txops, steps, draws]
  exact sent

/-- Settles O59: a run always has a next step, which lowers its rank; in DONE the invariant gives the status. -/
theorem everyRunEnds : Obligations.EveryRunEnds := by
  unfold Obligations.EveryRunEnds
  intro s h running
  obtain ⟨n, t, run, kept, done⟩ := run_ends h running
  exact ⟨n, t, run, done, exit_of_done kept done⟩

/-- Settles O14: by the place of the sequencer; a FatalError writes CAUSE, DIAG, EXIT and PHASE, and a failed line
operation only the lines besides. -/
theorem runEndsBySuccessOrFatalError : Obligations.RunEndsBySuccessOrFatalError := by
  unfold Obligations.RunEndsBySuccessOrFatalError
  intro s t running hs ended
  obtain st | st := step_running_next running hs
  · obtain ⟨c, rfl⟩ := st.fatal_of_done running ended
    exact .inr ⟨rfl, rfl, rfl, rfl, rfl, rfl, rfl, rfl, rfl, rfl, rfl, rfl, rfl, rfl, rfl, rfl⟩
  · obtain ⟨finish, rfl⟩ | ⟨owned, lvl0, lvl1, c, rfl⟩ := st.finish_or_fatal_of_done running ended
    · exact .inl ⟨finish, rfl⟩
    · exact .inr ⟨rfl, rfl, rfl, rfl, rfl, rfl, rfl, rfl, rfl, rfl, rfl, rfl, rfl, rfl, rfl, rfl⟩

/-- Settles O52: the invariant has no place of ENCODING outside the encoding, whose operations do not touch the lines. -/
theorem noLineOperationBeforeTheGate : Obligations.NoLineOperationBeforeTheGate := by
  unfold Obligations.NoLineOperationBeforeTheGate
  intro s t h hp hs
  obtain ⟨-, -, ⟨unowned, -⟩, place⟩ := (inv_encoding hp).mp h
  have encodes := encodes_of_encodingInv place
  obtain ⟨owned, levels⟩ := (encodeStep_of_step (.inl hp) encodes hs).lines_eq
  exact ⟨event_encodes encodes, owned.trans unowned, levels⟩

/-- Settles O8: by the phase. -/
theorem startBeginsRun : Obligations.StartBeginsRun := by
  unfold Obligations.StartBeginsRun
  intro s
  exact ⟨execStart_ready, execStart_refused⟩

/-- Settles O9: a write goes to the register that it names, the start command by its bit, and the reset and the empty queue
by the sequencer. -/
theorem hostCommandsInReady : Obligations.HostCommandsInReady := by
  unfold Obligations.HostCommandsInReady
  intro s rest hp
  have write (w : RegWrite) (e : s.host = .write w :: rest) := step_write hp e
  exact ⟨fun v => write (.chip v), fun v => write (.d0 v), fun v => write (.d1 v), fun v => write (.format v),
    fun v => write (.facilityBits v), fun v => write (.cardBits v), fun v => write (.facility v),
    fun v => write (.card v), fun v => write (.raw v), fun v => write (.parity v), fun v => write (.frameBits v),
    fun v => write (.pulseUs v), fun v => write (.spaceUs v),
    fun e => (step_start (.inl hp) e).trans (execStart_ready hp), step_start_low (.inl hp), step_reset (.inl hp),
    step_host_none (.inl hp)⟩

end Sys2Proof.Proofs
end

section
/-! CFGCHK by its four tests: which one fails first, and that the step is a FatalError with the cause of that one, or the
move to BUILD (41 R130 to R134). -/

namespace Sys2Proof.Machine

variable {s : State} {r : ConfigRegs} {z o : Nat}

/-! ### The tests -/

/-- The first test fails exactly where an offset is absent; with both present it is one of the later three, or none
(41 R131). -/
theorem check_lineMissing_iff : r.check = some .lineMissing ↔ r.d0 = none ∨ r.d1 = none := by
  unfold ConfigRegs.check
  split
  next z o zero one => rw [zero, one]; split_ifs <;> simp
  next unnamed =>
    refine iff_of_true rfl ?_
    cases zero : r.d0 with
    | none => exact .inl rfl
    | some z => exact .inr (Option.eq_none_iff_forall_ne_some.mpr fun o one => unnamed z o zero one)

/-- With both offsets present the other three tests decide, in the spec's order (92 D11). -/
theorem check_named (zero : r.d0 = some z) (one : r.d1 = some o) :
    r.check =
      if z = o then some .lineSame
      else if r.pulseUs < Config.pulseMinUs ∨ Config.pulseMaxUs < r.pulseUs then some .pulseRange
      else if r.spaceUs < r.pulseUs then some .spaceLtPulse
      else none := by
  rw [ConfigRegs.check, zero, one]

theorem check_lineSame (zero : r.d0 = some z) (one : r.d1 = some o) (same : z = o) : r.check = some .lineSame := by
  rw [check_named zero one, if_pos same]

theorem check_pulseRange (zero : r.d0 = some z) (one : r.d1 = some o) (distinct : z ≠ o)
    (outside : r.pulseUs < Config.pulseMinUs ∨ Config.pulseMaxUs < r.pulseUs) : r.check = some .pulseRange := by
  rw [check_named zero one, if_neg distinct, if_pos outside]

theorem check_spaceLtPulse (zero : r.d0 = some z) (one : r.d1 = some o) (distinct : z ≠ o)
    (low : Config.pulseMinUs ≤ r.pulseUs) (high : r.pulseUs ≤ Config.pulseMaxUs) (short : r.spaceUs < r.pulseUs) :
    r.check = some .spaceLtPulse := by
  rw [check_named zero one, if_neg distinct, if_neg (not_or.mpr ⟨low.not_gt, high.not_gt⟩), if_pos short]

theorem check_passes (zero : r.d0 = some z) (one : r.d1 = some o) (distinct : z ≠ o)
    (low : Config.pulseMinUs ≤ r.pulseUs) (high : r.pulseUs ≤ Config.pulseMaxUs) (spaced : r.pulseUs ≤ r.spaceUs) :
    r.check = none := by
  rw [check_named zero one, if_neg distinct, if_neg (not_or.mpr ⟨low.not_gt, high.not_gt⟩), if_neg spaced.not_gt]

/-! ### The step -/

theorem exec_cfgchk : exec .cfgchk s = execCfgchk s := rfl

theorem exec_cfgchk_of_check_some {c : Cause} (failed : s.cr.check = some c) :
    exec .cfgchk s = .next (s.raiseFatal c) := by
  rw [exec_cfgchk, execCfgchk, failed]

theorem exec_cfgchk_of_check_none (passed : s.cr.check = none) :
    exec .cfgchk s = .next { s with seq := .stage .build } := by
  rw [exec_cfgchk, execCfgchk, passed, State.goto]

/-- The FatalError shows which test failed: its state has that test's cause, and the move to BUILD, which draws no
diagnostic, is no FatalError of any cause. -/
theorem exec_cfgchk_raises_iff {c : Cause} : exec .cfgchk s = .next (s.raiseFatal c) ↔ s.cr.check = some c := by
  refine ⟨fun raised => ?_, exec_cfgchk_of_check_some⟩
  cases check : s.cr.check with
  | some c' =>
    rw [exec_cfgchk_of_check_some check] at raised
    injection raised with same
    exact congrArg State.cause same
  | none =>
    rw [exec_cfgchk_of_check_none check] at raised
    injection raised with same
    have draws : s.draws = s.draws + 1 := congrArg State.draws same
    omega

end Sys2Proof.Machine
end

section
/-! Proofs of the statements about the configuration validator (41). -/

namespace Sys2Proof.Proofs

open Sys2Proof.Machine

/-- Settles O15: a FatalError of CFGCHK has the cause of the test that failed, and an absent offset fails the first. -/
theorem linePresenceIsChecked : Obligations.LinePresenceIsChecked := by
  unfold Obligations.LinePresenceIsChecked
  intro s
  exact exec_cfgchk_raises_iff.trans check_lineMissing_iff

/-- Settles O16: by the first test that fails. -/
theorem configurationChecks : Obligations.ConfigurationChecks := by
  unfold Obligations.ConfigurationChecks
  intro s
  refine ⟨fun absent => exec_cfgchk_of_check_some (check_lineMissing_iff.mpr absent), fun z o zero one =>
    ⟨fun same => ?_, fun distinct => ⟨fun outside => ?_, fun low high => ⟨fun short => ?_, fun spaced => ?_⟩⟩⟩⟩
  · exact exec_cfgchk_of_check_some (check_lineSame zero one same)
  · exact exec_cfgchk_of_check_some (check_pulseRange zero one distinct outside)
  · exact exec_cfgchk_of_check_some (check_spaceLtPulse zero one distinct low high short)
  · exact exec_cfgchk_of_check_none (check_passes zero one distinct low high spaced)

end Sys2Proof.Proofs
end

section
/-! A raw run reads no register of field mode: every operation but those of FIELD and FORMAT commutes with a change of
these registers, a raw run never comes to one of those, and so the two runs go side by side (42 R159). -/

namespace Sys2Proof

/-- The codes that only field mode decodes: FSTEP2 and FMTID8 (42 R151, R153). -/
def Code.ofFieldMode : Code → Bool
  | .fstep2 _ | .fmtid8 _ => true
  | _ => false

end Sys2Proof

namespace Sys2Proof.Machine

/-! ### The registers of field mode -/

/-- The five registers that only field mode reads (42 R159). -/
structure FieldRegs where
  format : BitVec 8
  facilityBits : Option Nat
  cardBits : Option Nat
  facility : Nat
  card : Nat

/-- The state with these registers in place of its own. -/
def FieldRegs.put (f : FieldRegs) (s : State) : State :=
  { s with cr := { s.cr with
      format := f.format, facilityBits := f.facilityBits, cardBits := f.cardBits, facility := f.facility,
      card := f.card } }

variable {s t : State} {c : Code} {i : Instr} {f : FieldRegs}

/-- The result with its next state changed; a fault or a refusal stays as it is. -/
def onNext (g : State → State) : Result → Result
  | .next t => .next (g t)
  | .fault r => .fault r
  | .refused r => .refused r

theorem onNext_ite (g : State → State) (p : Prop) [Decidable p] (a b : Result) :
    (if p then onNext g a else onNext g b) = onNext g (if p then a else b) :=
  (apply_ite (onNext g) p a b).symm

/-! ### What the shared operations read -/

theorem appendChar_put (bits : BitSeq) : (f.put s).appendChar bits = onNext f.put (s.appendChar bits) := by
  unfold State.appendChar
  rw [← onNext_ite]
  rfl

theorem writeFrame_put (d : BitSeq) : (f.put s).writeFrame d = onNext f.put (s.writeFrame d) := by
  unfold State.writeFrame
  rw [← onNext_ite]
  rfl

theorem endBuild_put (emptyOk : Bool) : (f.put s).endBuild emptyOk = onNext f.put (s.endBuild emptyOk) := by
  unfold State.endBuild
  rw [← onNext_ite]
  rfl

theorem execStart_put : execStart (f.put s) = onNext f.put (execStart s) := by
  unfold execStart
  rw [show (f.put s).phase = s.phase from rfl]
  cases s.phase <;> rfl

theorem execCfgchk_put : execCfgchk (f.put s) = onNext f.put (execCfgchk s) := by
  unfold execCfgchk
  rw [show (f.put s).cr.check = s.cr.check from rfl]
  cases s.cr.check <;> rfl

theorem execFval_put : execFval (f.put s) = onNext f.put (execFval s) := by
  unfold execFval
  rw [show (f.put s).cr.frameBits = s.cr.frameBits from rfl]
  cases s.cr.frameBits with
  | none => rfl
  | some e =>
    simp only [← onNext_ite]
    rfl

theorem execTxReq_put : execTxReq (f.put s) = onNext f.put (execTxReq s) := by
  unfold execTxReq
  rw [show (f.put s).lineOffset = s.lineOffset from rfl]
  cases s.lineOffset .zero <;> cases s.lineOffset .one <;> rfl

theorem lineRequest_put : (f.put s).lineRequest = onNext f.put s.lineRequest := by
  unfold State.lineRequest
  rw [show (f.put s).answer = s.answer from rfl]
  cases s.answer <;> rfl

theorem lineSet_put (a : Line) (v : Level) : (f.put s).lineSet a v = onNext f.put (s.lineSet a v) := by
  unfold State.lineSet
  rw [show (f.put s).answer = s.answer from rfl, ← onNext_ite]
  cases s.answer <;> cases a <;> cases v <;> rfl

theorem lineSetBoth_put (vz vo : Level) : (f.put s).lineSetBoth vz vo = onNext f.put (s.lineSetBoth vz vo) := by
  unfold State.lineSetBoth
  rw [show (f.put s).answer = s.answer from rfl, ← onNext_ite]
  cases s.answer <;> rfl

theorem lineRelease_put : (f.put s).lineRelease = onNext f.put s.lineRelease := by
  unfold State.lineRelease
  rw [show (f.put s).answer = s.answer from rfl]
  cases s.answer <;> rfl

theorem holdTick_put (k : HoldKind) : (f.put s).holdTick k = f.put (s.holdTick k) := by
  have ended : (f.put s).holdDone k = f.put (s.holdDone k) := by cases k <;> rfl
  unfold State.holdTick
  rw [apply_ite f.put, ended]
  rfl

/-! ### What an operation reads -/

/-- No operation of another format reads a register of field mode (42 R159). -/
theorem exec_put (h : Code.ofFieldMode (encode i) = false) : exec i (f.put s) = onNext f.put (exec i s) := by
  cases i with
  | fieldResolve | fmt26 | fmt34 | fmt35 | fmt37 | fmt48 | fmtIll | fieldRange | fieldCompose | fieldPad => cases h
  | start => exact execStart_put
  | cfgchk => exact execCfgchk_put
  | bin0 | bin1 | hex0 | hex1 | hex2 | hex3 | hex4 | hex5 | hex6 | hex7 | hex8 | hex9
  | hexUA | hexUB | hexUC | hexUD | hexUE | hexUF | hexLA | hexLB | hexLC | hexLD | hexLE | hexLF =>
    exact appendChar_put _
  | parNone | parWeven | parWodd | parStd => exact writeFrame_put _
  | fval => exact execFval_put
  | txReq => exact execTxReq_put
  | lreq => exact lineRequest_put
  | lset1 a v => exact lineSet_put a v
  | lsetb vz vo => exact lineSetBoth_put vz vo
  | lrel => exact lineRelease_put
  | _ => rfl

/-! ### A step of a raw run -/

/-- The places that only field mode comes to (42 R151, R153). -/
def Seq.ofFieldMode : Seq → Bool
  | .fstep _ | .format => true
  | _ => false

/-- Outside field mode no selector is made of a register of field mode (30 R108). -/
theorem seqCode_put (place : s.seq.ofFieldMode = false) : (f.put s).seqCode = s.seqCode := by
  unfold State.seqCode
  rw [show (f.put s).seq = s.seq from rfl]
  cases q : s.seq with
  | format => simp [q, Seq.ofFieldMode] at place
  | txstep n => cases n <;> rfl
  | _ => rfl

/-- Outside field mode no operation of field mode is decoded (30 R108). -/
theorem seqCode_ofFieldMode (place : s.seq.ofFieldMode = false) (hc : s.seqCode = some c) :
    Code.ofFieldMode c = false := by
  revert hc
  unfold State.seqCode
  cases q : s.seq with
  | format | fstep => simp [q, Seq.ofFieldMode] at place
  | literal => cases s.rawChars[s.k]? <;> rintro ⟨⟩; rfl
  | txstep n =>
    cases n with
    | pulse => cases s.frame[s.i]? <;> rintro ⟨⟩; rfl
    | _ => rintro ⟨⟩; rfl
  | lineop op => rintro ⟨⟩; cases op <;> rfl
  | hold | finish => rintro ⟨⟩
  | _ => rintro ⟨⟩; rfl

/-- Between two operations of a run the sequencer reads no register of field mode (42 R159). -/
theorem sequence_put (h : s.running) : (f.put s).sequence = onNext f.put s.sequence := by
  unfold State.sequence
  rw [show (f.put s).phase = s.phase from rfl, show (f.put s).seq = s.seq from rfl]
  rcases h with h | h <;> rw [h] <;>
  · cases s.seq with
    | literal => exact endBuild_put _
    | hold k => exact congrArg Host.Outcome.next (holdTick_put k)
    | _ => rfl

/-- A step of a run outside field mode reads no register of field mode (42 R159). -/
theorem step_running_put (h : s.running) (place : s.seq.ofFieldMode = false) :
    step (f.put s) = onNext f.put (step s) := by
  cases hc : s.seqCode with
  | none =>
    rw [step_between h hc, step_between (s := f.put s) h ((seqCode_put place).trans hc)]
    exact sequence_put h
  | some c =>
    obtain ⟨i, hi⟩ := decode_seqCode hc
    obtain ⟨code, -⟩ := encode_of_decode hi
    rw [step_decoded h hc hi, step_decoded (s := f.put s) h ((seqCode_put place).trans hc) hi]
    exact exec_put (code ▸ seqCode_ofFieldMode place hc)

/-! ### The whole raw run -/

/-- A raw run that the host leaves alone, outside field mode (42 R140, R159). -/
def State.rawRun (s : State) : Prop := s.host = [] ∧ s.cr.raw.isSome = true ∧ s.seq.ofFieldMode = false

/-- A step of a raw run reads no register of field mode: with an idle host READY and DONE change nothing, and in a run
the place is outside field mode (42 R159). -/
theorem step_put (h : s.rawRun) : step (f.put s) = onNext f.put (step s) := by
  obtain ⟨host, -, place⟩ := h
  have idle (outside : s.phase = .ready ∨ s.phase = .done) : step (f.put s) = onNext f.put (step s) := by
    rw [step_host_none outside host, step_host_none (s := f.put s) outside host]; rfl
  cases hp : s.phase with
  | ready => exact idle (.inl hp)
  | done => exact idle (.inr hp)
  | encoding => exact step_running_put (.inl hp) place
  | transmitting => exact step_running_put (.inr hp) place

/-- Only where MODE1 is decoded does a step of the encoding come to field mode from outside (42 R140). -/
theorem EncodeStep.stays_outside_field_mode (st : EncodeStep s t) (place : s.seq.ofFieldMode = false)
    (selected : s.seq ≠ .mode) : t.seq.ofFieldMode = false := by
  cases st with
  | fatal => exact place
  | @handOver p q =>
    simp only [handOvers, List.mem_cons, Prod.mk.injEq, List.not_mem_nil, or_false] at q
    rcases q with ⟨q, rfl⟩ | ⟨q, rfl⟩ | ⟨q, rfl⟩ | ⟨q, rfl⟩ | ⟨q, rfl⟩ | ⟨q, rfl⟩ | ⟨q, rfl⟩ <;>
      simp_all [Seq.ofFieldMode]
  | overrides q | presetWidths q | compose q => simp [q, Seq.ofFieldMode] at place
  | _ => rfl

theorem TransmitStep.stays_outside_field_mode (st : TransmitStep s t) (place : s.seq.ofFieldMode = false) :
    t.seq.ofFieldMode = false := by
  cases st with
  | lineFail | tick | finish => exact place
  | @holdEnd k => cases k <;> rfl
  | _ => rfl

/-- A raw run stays one: BUILD hands over to the literal, and no later place leads to field mode (42 R140, R141). -/
theorem step_keeps_rawRun (h : s.rawRun) (hs : step s = .next t) : t.rawRun := by
  obtain ⟨host, raw, place⟩ := h
  have idle (outside : s.phase = .ready ∨ s.phase = .done) : t.rawRun := by
    cases (step_host_none outside host).symm.trans hs
    exact ⟨host, raw, place⟩
  have inside (running : s.running) : t.rawRun := by
    by_cases q : s.seq = .mode
    · cases (step_mode_raw running q raw).symm.trans hs
      exact ⟨host, raw, rfl⟩
    · obtain st | st := step_running_next running hs
      · obtain ⟨cr, host'⟩ := st.frame_eq
        exact ⟨host' ▸ host, cr ▸ raw, st.stays_outside_field_mode place q⟩
      · obtain ⟨cr, host', -⟩ := st.frame_eq
        exact ⟨host' ▸ host, cr ▸ raw, st.stays_outside_field_mode place⟩
  cases hp : s.phase with
  | ready => exact idle (.inl hp)
  | done => exact idle (.inr hp)
  | encoding => exact inside (.inl hp)
  | transmitting => exact inside (.inr hp)

/-- A run stops at a fault. -/
theorem run_fault {r : Fault} (h : step s = .fault r) (n : Nat) : core.run (n + 1) s = .fault r := by
  have h' : core.step s = .fault r := h
  simp only [Host.Core.run, h']

/-- A run stops at a refusal. -/
theorem run_refused {r : Refusal} (h : step s = .refused r) (n : Nat) : core.run (n + 1) s = .refused r := by
  have h' : core.step s = .refused r := h
  simp only [Host.Core.run, h']

/-- Two raw runs that differ in the registers of field mode go side by side: by induction on the steps (42 R159). -/
theorem run_put (n : Nat) (h : s.rawRun) : core.run n (f.put s) = onNext f.put (core.run n s) := by
  induction n generalizing s with
  | zero => rfl
  | succ n ih =>
    have side_by_side := step_put (f := f) h
    cases hs : step s with
    | next t =>
      rw [hs] at side_by_side
      rw [run_next hs, run_next side_by_side]
      exact ih (step_keeps_rawRun h hs)
    | fault r =>
      rw [hs] at side_by_side
      rw [run_fault hs, run_fault side_by_side]; rfl
    | refused r =>
      rw [hs] at side_by_side
      rw [run_refused hs, run_refused side_by_side]; rfl

end Sys2Proof.Machine
end

section
/-! The operations of the frame builder, one equation a case: a digit of the literal, the widths, the composition and
the pad (42 R140 to R157); and what the composed bits are as numbers (00 R10). -/

namespace Sys2Proof.Machine

variable {s : State} {i : Instr}

/-! ### The literal -/

theorem exec_bin0 : exec .bin0 s = s.appendChar [false] := rfl

theorem exec_bin1 : exec .bin1 s = s.appendChar [true] := rfl

theorem charBits_bin_illegal {ch : Byte} (h : ch ∉ binChars) : charBits true false ch = none := by
  simp only [binChars, List.mem_cons, List.not_mem_nil, or_false, not_or] at h
  obtain ⟨n30, n31, n20, n5F⟩ := h
  rw [charBits, if_neg Bool.false_ne_true, if_neg n30, if_neg n31, if_neg (not_or.mpr ⟨n20, n5F⟩)]

/-- A character outside the three digit ranges has no value (30 R94, R95). -/
theorem charBits_hex_illegal {ch : Byte}
    (h : ¬ (0x30 ≤ ch.toNat ∧ ch.toNat ≤ 0x39 ∨ 0x41 ≤ ch.toNat ∧ ch.toNat ≤ 0x46 ∨
      0x61 ≤ ch.toNat ∧ ch.toNat ≤ 0x66)) : charBits true true ch = none := by
  obtain ⟨decimal, upper, lower⟩ : _ ∧ _ ∧ _ := by simpa only [not_or] using h
  simp only [charBits, digitValue, if_neg decimal, if_neg upper, true_and, if_neg lower, if_true, Option.map_none]

/-- A digit of four bits appends them and the cursor advances, or none of them is appended and the run ends
(42 R148, R149, R158). -/
theorem exec_hexDigit {bits : BitSeq} (digit : litBits i = some (some bits)) (four : bits.length = 4) :
    (s.data.length + 4 ≤ 512 → exec i s = .next { s with data := s.data ++ bits, k := s.k + 1, seq := .literal }) ∧
    (512 < s.data.length + 4 → exec i s = .next (s.raiseFatal .capacity)) := by
  obtain append | ⟨rfl, -⟩ := exec_legal_character (s := s) digit
  · rw [append, ← four]
    exact ⟨appendChar_fits, appendChar_overflow⟩
  · cases four

/-! ### The widths -/

theorem exec_fieldResolve_overrides {a b : Nat} (facility : s.cr.facilityBits = some a)
    (card : s.cr.cardBits = some b) :
    exec .fieldResolve s = .next { s with fb := a, cb := b, seq := .fstep .range } := by
  simp [exec, execFieldResolve, facility, card, State.goto]

theorem exec_fieldResolve_format (absent : s.cr.facilityBits = none ∨ s.cr.cardBits = none) :
    exec .fieldResolve s = .next { s with seq := .format } := by
  rcases absent with absent | absent <;> simp [exec, execFieldResolve, absent, State.goto]

theorem takePreset_of_preset {id : BitVec 8} {pf pc : Nat} (supported : preset id = some (pf, pc)) :
    s.takePreset id =
      .next { s with fb := s.cr.facilityBits.getD pf, cb := s.cr.cardBits.getD pc, seq := .fstep .range } := by
  simp [State.takePreset, supported, State.goto]

/-- The operation that a format's code decodes to takes its preset (42 R152). -/
theorem exec_of_decode_format {id : BitVec 8} (h : decode (.fmtid8 id) = .ok i) : exec i s = s.takePreset id := by
  cases h
  exact exec_format id

theorem widthsExplicit_iff : s.widthsExplicit = true ↔ s.cr.facilityBits ≠ none ∧ s.cr.cardBits ≠ none := by
  simp [State.widthsExplicit, Option.isSome_iff_ne_none]

theorem exec_fmtIll_explicit {id : BitVec 8} (explicit : s.widthsExplicit = true) :
    exec (.fmtIll id) s = .next { s with seq := .fstep .range } := by
  simp [exec, execFmtIll, explicit, State.goto]

theorem exec_fmtIll_needed {id : BitVec 8} (needed : ¬ s.widthsExplicit = true) :
    exec (.fmtIll id) s = .next (s.raiseFatal .format) := by
  simp [exec, execFmtIll, needed]

/-! ### The composition -/

theorem composeData_fits (h : s.fb + s.cb ≤ Config.dataCap) :
    s.composeData =
      .next { s with data := msbFirst s.cr.facility s.fb ++ msbFirst s.cr.card s.cb, seq := .fstep .pad } := by
  simp [State.composeData, State.goto, Nat.not_lt.mpr h]

theorem composeData_overflow (h : Config.dataCap < s.fb + s.cb) : s.composeData = .next (s.raiseFatal .capacity) := by
  simp [State.composeData, h]

theorem bitAt_eq_decide (v k : Nat) : bitAt v k = decide (v / 2 ^ k % 2 = 1) := rfl

theorem bitAt_toNat (v k : Nat) : (bitAt v k).toNat = v / 2 ^ k % 2 := by
  rcases Nat.mod_two_eq_zero_or_one (v / 2 ^ k) with bit | bit <;> simp [bitAt, bit]

/-- The first bit is the most significant one (00 R10). -/
theorem msbFirst_succ (v w : Nat) : msbFirst v (w + 1) = bitAt v w :: msbFirst v w := by
  simp [msbFirst, List.range_succ_eq_map, Function.comp_def, Nat.sub_sub, Nat.add_comm]

/-- The binary number that the bits spell, the most significant one first, behind the number `n` (42 R161). -/
def readMsbFirst (n : Nat) (bits : BitSeq) : Nat := bits.foldl (fun n b => 2 * n + b.toNat) n

theorem readMsbFirst_cons (n : Nat) (b : Bit) (bits : BitSeq) :
    readMsbFirst n (b :: bits) = readMsbFirst (2 * n + b.toNat) bits := rfl

/-- The bits of a value are read back as its remainder by 2 to the width: by induction on the width (42 R161). -/
theorem readMsbFirst_msbFirst (v w n : Nat) : readMsbFirst n (msbFirst v w) = n * 2 ^ w + v % 2 ^ w := by
  induction w generalizing n with
  | zero => simp [readMsbFirst, msbFirst, Nat.mod_one]
  | succ w ih =>
    rw [msbFirst_succ, readMsbFirst_cons, ih, bitAt_toNat, Nat.mod_pow_succ, pow_succ]
    ring

/-- A value that fits its width is read back from its bits (42 R161). -/
theorem readMsbFirst_of_lt {v w : Nat} (fits : v < 2 ^ w) : readMsbFirst 0 (msbFirst v w) = v := by
  rw [readMsbFirst_msbFirst, Nat.zero_mul, Nat.zero_add, Nat.mod_eq_of_lt fits]

/-! ### The pad -/

/-- Without an expectation or under a parity nothing is padded (42 R157, R160). -/
theorem exec_fieldPad_unpadded (h : s.cr.frameBits = none ∨ s.cr.parity ≠ 0) :
    exec .fieldPad s = .next { s with seq := .stage .par } := by
  simp only [exec, execFieldPad, Config.emptyDataOk, endBuild_true]
  split
  · rfl
  next e expected => rw [if_pos (h.resolve_left (by simp [expected]))]

/-- Under parity None an expectation is met by zeros on the left, where they are neither too few nor too many
(42 R157). -/
theorem exec_fieldPad_expected {e : Nat} (expected : s.cr.frameBits = some e) (parity : s.cr.parity = 0) :
    exec .fieldPad s =
      if e < s.data.length then .next (s.raiseFatal .padShort)
      else if Config.dataCap < e then .next (s.raiseFatal .padCap)
      else .next { s with data := zeros (e - s.data.length) ++ s.data, seq := .stage .par } := by
  simp only [exec, execFieldPad, expected, Config.emptyDataOk, endBuild_true, State.dlen]
  rw [if_neg (not_not_intro parity)]

end Sys2Proof.Machine
end

section
/-! Proofs of the statements about the frame builder (42). -/

namespace Sys2Proof.Proofs

open Sys2Proof.Machine

/-- Settles O60: a raw run stays outside field mode, whose operations alone read these registers, so the two runs go side
by side. -/
theorem rawRunIgnoresFieldRegisters : Obligations.RawRunIgnoresFieldRegisters := by
  unfold Obligations.RawRunIgnoresFieldRegisters
  intro s fmt fb cb fac card n hp q raw host
  have raw_run : s.rawRun := ⟨host, raw, by rw [q]; rfl⟩
  refine (run_put (f := ⟨fmt, fb, cb, fac, card⟩) n raw_run).trans ?_
  cases core.run n s <;> rfl

/-- Settles O29: the two fields lie behind one another in DATA, each its value written most significant bit first. -/
theorem composedFieldsReadBack : Obligations.ComposedFieldsReadBack := by
  unfold Obligations.ComposedFieldsReadBack
  intro s t fits facility card hs
  cases (composeData_fits fits).symm.trans hs
  have boundary := msbFirst_length s.cr.facility s.fb
  rw [List.take_left' boundary, List.drop_left' boundary]
  exact ⟨readMsbFirst_of_lt facility, readMsbFirst_of_lt card⟩

/-- Settles O17: by the presence of RAW, of which MODE1 is made. -/
theorem buildSelectsMode : Obligations.BuildSelectsMode := by
  unfold Obligations.BuildSelectsMode
  refine ⟨rfl, rfl, rfl, fun s => ⟨rfl, fun hp q => ⟨fun raw => ?_, fun field => ?_⟩, rfl, rfl⟩⟩
  · exact step_mode_raw (.inl hp) q raw
  · exact step_mode_field (.inl hp) q (by rw [field]; rfl)

/-- Settles O18: by the first two characters. -/
theorem hexPrefixIsRecognised : Obligations.HexPrefixIsRecognised := by
  unfold Obligations.HexPrefixIsRecognised
  intro s
  refine ⟨fun _ => rfl, fun _ => rfl, fun hp q => ⟨?_, fun no_hex => ?_⟩⟩
  · rintro ⟨rest, chars | chars⟩
    · exact step_prefix_hex (.inl hp) q chars (.inl rfl)
    · exact step_prefix_hex (.inl hp) q chars (.inr rfl)
  · refine step_prefix_bin (.inl hp) q fun c1 rest chars => ⟨?_, ?_⟩
    · rintro rfl; exact no_hex ⟨rest, .inl chars⟩
    · rintro rfl; exact no_hex ⟨rest, .inr chars⟩

/-- Settles O19: the one bit of the digit fits, or it does not. -/
theorem binaryDigitsAppendOneBit : Obligations.BinaryDigitsAppendOneBit := by
  unfold Obligations.BinaryDigitsAppendOneBit
  refine ⟨rfl, rfl, fun s => ⟨fun room => ?_, fun full => ?_⟩⟩
  · exact ⟨exec_bin0.trans (appendChar_fits room), exec_bin1.trans (appendChar_fits room)⟩
  · have full : Config.dataCap < s.data.length + 1 := Nat.lt_succ_of_le full
    exact ⟨exec_bin0.trans (appendChar_overflow full), exec_bin1.trans (appendChar_overflow full)⟩

/-- Settles O20: a separator only advances the cursor. -/
theorem separatorsAreSkipped : Obligations.SeparatorsAreSkipped := by
  unfold Obligations.SeparatorsAreSkipped
  exact ⟨rfl, rfl, fun s => ⟨rfl, rfl⟩⟩

/-- Settles O21: an illegal character yields no bits in its mode, and a character without bits ends the run. -/
theorem illegalCharactersEndTheRun : Obligations.IllegalCharactersEndTheRun := by
  unfold Obligations.IllegalCharactersEndTheRun
  intro s ch
  refine ⟨exec_of_litBits_illegal rfl, exec_of_litBits_illegal rfl, fun hp q char => ?_⟩
  refine ⟨fun bin illegal => step_char_illegal (.inl hp) q char ?_, fun hex illegal =>
    step_char_illegal (.inl hp) q char ?_⟩
  · rw [bin]; exact charBits_bin_illegal illegal
  · rw [hex]; exact charBits_hex_illegal illegal

/-- Settles O22: each row of the table is the code of a digit and its four bits. -/
theorem decimalHexDigitsAppendFourBits : Obligations.DecimalHexDigitsAppendFourBits := by
  unfold Obligations.DecimalHexDigitsAppendFourBits
  intro s p row
  have digit : decode (.litchar9 p.1) = .ok p.2.1 ∧ litBits p.2.1 = some (some p.2.2) ∧ p.2.2.length = 4 := by
    revert p; decide
  obtain ⟨code, bits, four⟩ := digit
  exact ⟨code, exec_hexDigit bits four⟩

/-- Settles O23: each row of the table is a digit of four bits. -/
theorem letterHexDigitsAppendFourBits : Obligations.LetterHexDigitsAppendFourBits := by
  unfold Obligations.LetterHexDigitsAppendFourBits
  intro s p row
  have digit : litBits p.1 = some (some p.2) ∧ p.2.length = 4 := by revert p; decide
  obtain ⟨bits, four⟩ := digit
  exact exec_hexDigit bits four

/-- Settles O24: by the presence of both overrides. -/
theorem resolveTakesOverridesOrFormat : Obligations.ResolveTakesOverridesOrFormat := by
  unfold Obligations.ResolveTakesOverridesOrFormat
  exact fun s => ⟨fun _ _ => exec_fieldResolve_overrides, exec_fieldResolve_format⟩

/-- Settles O25: each code of the table decodes to the operation that takes its preset. -/
theorem presetsGiveWidths : Obligations.PresetsGiveWidths := by
  unfold Obligations.PresetsGiveWidths
  intro s p row
  have format : decode (.fmtid8 p.2.1) = .ok p.1 ∧ preset p.2.1 = some (p.2.2.1, p.2.2.2) := by revert p; decide
  obtain ⟨code, supported⟩ := format
  exact ⟨code, supported, (exec_of_decode_format code).trans (takePreset_of_preset supported)⟩

/-- Settles O26: by the presence of both overrides; FMT.ILL is the default row of its format. -/
theorem unsupportedFormatIsFatalWhenNeeded : Obligations.UnsupportedFormatIsFatalWhenNeeded := by
  unfold Obligations.UnsupportedFormatIsFatalWhenNeeded
  intro s id
  refine ⟨fun absent => exec_fmtIll_needed ?_, fun facility card => exec_fmtIll_explicit ?_, fun unsupported => ?_⟩
  · rw [widthsExplicit_iff]; tauto
  · exact widthsExplicit_iff.mpr ⟨facility, card⟩
  · exact congrArg Except.ok (decodeFormat_ill id unsupported)

/-- Settles O27: by whether both values fit. -/
theorem fieldValuesMustFitWidths : Obligations.FieldValuesMustFitWidths := by
  unfold Obligations.FieldValuesMustFitWidths
  refine ⟨rfl, fun s => ⟨execFieldRange_fits, fun exceeds => execFieldRange_exceeds ?_⟩⟩
  rintro ⟨facility, card⟩
  exact exceeds.elim facility.not_ge card.not_ge

/-- Settles O28: by whether the fields fit into DATA; each is its value written most significant bit first. -/
theorem compositionIsMsbFirst : Obligations.CompositionIsMsbFirst := by
  unfold Obligations.CompositionIsMsbFirst
  intro s
  refine ⟨fun fits => ⟨_, composeData_fits fits, by simp, fun j inside => ?_, fun j inside => ?_⟩,
    composeData_overflow⟩
  · rw [List.getElem?_append_left (by simpa using inside), msbFirst_get _ _ _ inside, bitAt_eq_decide]
  · rw [List.getElem?_append_right (by simp), msbFirst_length, Nat.add_sub_cancel_left, msbFirst_get _ _ _ inside,
      bitAt_eq_decide]

/-- Settles O30: by the expectation, which DATA exceeds, which exceeds the capacity, or which zeros fill up. -/
theorem padExtendsDataOnTheLeft : Obligations.PadExtendsDataOnTheLeft := by
  unfold Obligations.PadExtendsDataOnTheLeft
  intro s
  refine ⟨exec_fieldPad_unpadded, fun e expected parity => ?_⟩
  rw [exec_fieldPad_expected expected parity]
  refine ⟨fun short => ?_, fun long over_cap => ?_, fun long fits => ?_⟩
  · rw [if_pos short]
  · rw [if_neg long.not_gt, if_pos (show Config.dataCap < e from over_cap)]
  · rw [if_neg long.not_gt, if_neg (show ¬ Config.dataCap < e from fits.not_gt), zeros]

end Sys2Proof.Proofs
end

section
/-! The four parity encoders: which of them the code of PARITY selects, the frame of each with the parities of its
counts of ones, and that a frame determines its data (43). -/

namespace Sys2Proof.Machine

variable {s : State}

/-! ### The selection -/

/-- The operation that the code of PARITY decodes to comes next (43 R170). -/
theorem step_parity_selects (h : s.running) (q : s.seq = .parity) : step s = exec (decodeParity s.cr.parity) s :=
  step_decoded h (c := .parsel2 s.cr.parity) (by simp [State.seqCode, q]) rfl

theorem exec_parNone : exec .parNone s = s.writeFrame s.data := rfl

theorem exec_parWeven : exec .parWeven s = s.writeFrame (s.data ++ [isEven (ones s.data)]) := rfl

theorem exec_parWodd : exec .parWodd s = s.writeFrame (s.data ++ [!isEven (ones s.data)]) := rfl

theorem exec_parStd : exec .parStd s = s.writeFrame (stdFrame s.data) := rfl

/-- A frame longer than FRAME is not written (43 R175, 20 R63). -/
theorem writeFrame_overflow {f : BitSeq} (h : Config.frameCap < f.length) :
    s.writeFrame f = .next (s.raiseFatal .capacity) := by
  rw [State.writeFrame, if_pos h]

/-! ### The counts of ones -/

theorem ones_eq_count (d : BitSeq) : ones d = d.count true := List.countP_congr (by simp)

theorem isEven_eq_decide (c : Nat) : isEven c = decide (c % 2 = 0) := rfl

theorem not_isEven_eq_decide (c : Nat) : (!isEven c) = decide (c % 2 = 1) := by
  rcases Nat.mod_two_eq_zero_or_one c with even | odd
  · simp [isEven, even]
  · simp [isEven, odd]

/-- "1 if c is even else 0" makes a count odd (43 R172, R174). -/
theorem add_isEven_mod_two (c : Nat) : (c + (isEven c).toNat) % 2 = 1 := by
  rcases Nat.mod_two_eq_zero_or_one c with even | odd
  · simp [isEven, Nat.add_mod, even]
  · simp [isEven, odd]

/-- "0 if c is even else 1" makes a count even (43 R173, R174). -/
theorem add_not_isEven_mod_two (c : Nat) : (c + (!isEven c).toNat) % 2 = 0 := by
  rcases Nat.mod_two_eq_zero_or_one c with even | odd
  · simp [isEven, even]
  · simp [isEven, Nat.add_mod, odd]

theorem ones_append_isEven (d : BitSeq) : ones (d ++ [isEven (ones d)]) % 2 = 1 := by
  rw [ones_append, ones_singleton, add_isEven_mod_two]

theorem ones_append_not_isEven (d : BitSeq) : ones (d ++ [!isEven (ones d)]) % 2 = 0 := by
  rw [ones_append, ones_singleton, add_not_isEven_mod_two]

/-! ### The frame determines its data -/

/-- Under one mode the added bits stand at fixed places, so cutting them off gives the data back (43 R176(e)). -/
theorem frameOfData_injective (sel : BitVec 2) : Function.Injective (frameOfData sel) := by
  intro d d' same
  match sel with
  | 0 => exact same
  | 1 => exact List.append_inj_left' same rfl
  | 2 => exact List.append_inj_left' same rfl
  | 3 =>
    have without_trailing : [stdLeading (d.take (d.length / 2))] ++ d = [stdLeading (d'.take (d'.length / 2))] ++ d' :=
      List.append_inj_left' same rfl
    exact List.append_inj_right without_trailing rfl

/-- With data within its capacity the parity encoder writes the frame of the selected mode (43 R170, R175). -/
theorem step_parity_fits (h : s.running) (q : s.seq = .parity) (fits : s.data.length ≤ Config.dataCap) :
    step s = .next { s with frame := frameOfData s.cr.parity s.data, seq := .stage .fval } := by
  have two_more : Config.dataCap + 2 ≤ Config.frameCap := by decide
  exact (step_parity h q).trans
    (writeFrame_fits ((frameOfData_length _ _).trans ((Nat.add_le_add_right fits 2).trans two_more)))

end Sys2Proof.Machine
end

section
/-! Proofs of the statements about the parity encoder (43). -/

namespace Sys2Proof.Proofs

open Sys2Proof.Machine

/-- Settles O35: both states step to the frame of their data under the one mode, and that frame determines the data. -/
theorem parityEncoderIsInjective : Obligations.ParityEncoderIsInjective := by
  unfold Obligations.ParityEncoderIsInjective
  intro s s' t t' hp hp' q q' mode fits fits' hs hs' same
  cases (step_parity_fits (.inl hp) q fits).symm.trans hs
  cases (step_parity_fits (.inl hp') q' fits').symm.trans hs'
  have same : frameOfData s.cr.parity s.data = frameOfData s'.cr.parity s'.data := same
  rw [mode] at same
  exact frameOfData_injective _ same

/-- Settles O31: by the code of PARITY. -/
theorem paritySelectsOneEncoder : Obligations.ParitySelectsOneEncoder := by
  unfold Obligations.ParitySelectsOneEncoder
  refine fun s => ⟨rfl, fun hp q => ?_⟩
  have selects {sel : BitVec 2} (code : s.cr.parity = sel) : step s = exec (decodeParity sel) s :=
    code ▸ step_parity_selects (.inl hp) q
  exact ⟨selects, selects, selects, selects⟩

/-- Settles O32: DATA is the frame that PAR.NONE writes. -/
theorem parityNoneIsIdentity : Obligations.ParityNoneIsIdentity := by
  unfold Obligations.ParityNoneIsIdentity
  exact ⟨rfl, fun s fits => exec_parNone.trans (writeFrame_fits fits)⟩

/-- Settles O33: the appended bit turns the count of ones odd under PAR.WEVEN, even under PAR.WODD. -/
theorem wholeParityAppendsOneBit : Obligations.WholeParityAppendsOneBit := by
  unfold Obligations.WholeParityAppendsOneBit
  intro s fits
  simp only [← ones_eq_count, ← isEven_eq_decide, ← not_isEven_eq_decide]
  have written (b : Bit) :
      s.writeFrame (s.data ++ [b]) = .next { s with frame := s.data ++ [b], seq := .stage .fval } :=
    writeFrame_fits (List.length_append.trans_le fits)
  exact ⟨_, _, exec_parWeven.trans (written _), rfl, List.length_append, ones_append_isEven _,
    exec_parWodd.trans (written _), rfl, List.length_append, ones_append_not_isEven _⟩

/-- Settles O34: the leading bit turns the count of the left half odd, the trailing bit that of the right half even. -/
theorem standardParityOverHalves : Obligations.StandardParityOverHalves := by
  unfold Obligations.StandardParityOverHalves
  intro s fits
  simp only [← ones_eq_count]
  refine ⟨_, _, exec_parStd.trans (writeFrame_fits ((stdFrame_length _).trans_le fits)), stdFrame_length _,
    isEven_iff _, ?_, ?_, ones_append_not_isEven _⟩
  · rw [stdTrailing, Bool.not_eq_false', isEven_iff]
  · rw [ones_append, ones_singleton, Nat.add_comm]
    exact add_isEven_mod_two _

/-- Settles O36: no operation writes a frame that is longer than FRAME. -/
theorem frameOverflowIsFatal : Obligations.FrameOverflowIsFatal := by
  unfold Obligations.FrameOverflowIsFatal
  intro s
  refine ⟨fun long => exec_parNone.trans (writeFrame_overflow long), fun long => ?_, fun long => ?_⟩
  · have overflow (b : Bit) : s.writeFrame (s.data ++ [b]) = .next (s.raiseFatal .capacity) :=
      writeFrame_overflow (long.trans_eq (by rw [List.length_append, List.length_singleton]))
    exact ⟨exec_parWeven.trans (overflow _), exec_parWodd.trans (overflow _)⟩
  · exact exec_parStd.trans (writeFrame_overflow (by rwa [stdFrame_length]))

end Sys2Proof.Proofs
end

section
/-! The gate without an expectation and with one (44). -/

namespace Sys2Proof.Machine

variable {s : State}

/-- Without FRAME_BITS the gate only hands over to the transmitter (44 R180). -/
theorem exec_fval_absent (absent : s.cr.frameBits = none) : exec .fval s = .next { s with seq := .stage .tx } := by
  simp only [exec, execFval, absent, State.goto]

/-- With FRAME_BITS the gate compares it with FLEN (44 R180). -/
theorem exec_fval_present {e : Nat} (present : s.cr.frameBits = some e) :
    exec .fval s = if e ≠ s.flen then .next (s.raiseFatal .frameLen) else .next { s with seq := .stage .tx } := by
  simp only [exec, execFval, present, State.goto]

end Sys2Proof.Machine
end

section
/-! Proofs of the statements about the frame validator (44). -/

namespace Sys2Proof.Proofs

open Sys2Proof.Machine

/-- Settles O37: without an expectation nothing is compared; a present one equals FLEN or not. -/
theorem gateComparesFrameLength : Obligations.GateComparesFrameLength := by
  unfold Obligations.GateComparesFrameLength
  refine fun s => ⟨?_, fun e present differs => ?_⟩
  · rintro (absent | equal)
    · exact exec_fval_absent absent
    · rw [exec_fval_present equal, if_neg (not_not_intro (show s.frame.length = s.flen from rfl))]
  · rw [exec_fval_present present, if_pos (show e ≠ s.flen from differs)]

end Sys2Proof.Proofs
end

section
/-! The list txops by its entries: how long it is, which entry stands at which index, and what a receiver counts in what
it shows (45 R187, R202, R203). -/

namespace Sys2Proof.Machine

variable {chip : List Byte} {z o : Nat} {f : BitSeq} {p g i j : Nat} {b : Bit}

/-! ### How long it is -/

theorem pulses_length : (f.flatMap (pulseEntries p g)).length = 4 * f.length := by
  induction f with
  | nil => rfl
  | cons b f ih =>
    have four : (pulseEntries p g b).length = 4 := rfl
    rw [List.flatMap_cons, List.length_append, ih, four, List.length_cons]; omega

theorem txops_length : (txops chip z o f p g).length = 4 * f.length + 5 := by
  simp only [txops, List.length_append, pulses_length, List.length_cons, List.length_nil]
  omega

/-! ### The entry at an index -/

theorem pulses_drop (i : Nat) :
    (f.flatMap (pulseEntries p g)).drop (4 * i) = (f.drop i).flatMap (pulseEntries p g) := by
  induction i generalizing f with
  | zero => rfl
  | succ i ih =>
    cases f with
    | nil => simp
    | cons b f => exact ih

/-- Behind the entries of the frame bits before I stand those of the others, and then the end (45 R187). -/
theorem txops_drop (inside : i ≤ f.length) :
    (txops chip z o f p g).drop (3 + 4 * i) =
      (f.drop i).flatMap (pulseEntries p g) ++ [.op (.lsetb .high .high), .op .lrel] := by
  have fits : 4 * i ≤ (f.flatMap (pulseEntries p g)).length := by rw [pulses_length]; omega
  calc (txops chip z o f p g).drop (3 + 4 * i)
    _ = (f.flatMap (pulseEntries p g) ++ [TxEntry.op (.lsetb .high .high), .op .lrel]).drop (4 * i) := by
      rw [← List.drop_drop]; rfl
    _ = _ := by rw [List.drop_append_of_le_length fits, pulses_drop]

/-- The entries of frame bit I are 3 + 4 I to 6 + 4 I (45 R187). -/
theorem txops_pulse_entry (bit : f[i]? = some b) (inside : j < 4) :
    (txops chip z o f p g)[3 + 4 * i + j]? = (pulseEntries p g b)[j]? := by
  obtain ⟨below, rfl⟩ := List.getElem?_eq_some_iff.mp bit
  rw [← List.getElem?_drop, txops_drop below.le, List.drop_eq_getElem_cons below, List.flatMap_cons, List.append_assoc,
    List.getElem?_append_left (show j < (pulseEntries p g f[i]).length from inside)]

/-- The terminal transition and the release are entries 3 + 4 L and 4 + 4 L (45 R187). -/
theorem txops_end_entry (j : Nat) :
    (txops chip z o f p g)[3 + 4 * f.length + j]? =
      [TxEntry.op (.lsetb .high .high), .op .lrel][j]? := by
  rw [← List.getElem?_drop, txops_drop le_rfl, List.drop_length, List.flatMap_nil, List.nil_append]

/-! ### What a receiver counts -/

/-- A frame bit shows its low set, its low time, its rising set and its spacing (45 R193). -/
theorem shown_pulseEntries :
    (pulseEntries p g b).flatMap TxEntry.shown =
      [Event.op (.lset1 (lineOf b) .low)] ++ List.replicate p Event.tick ++
        [Event.op (.lset1 (lineOf b) .high)] ++ List.replicate g Event.tick := by
  simp [pulseEntries, TxEntry.shown]

/-- The request, the initial transition and a hold of n microseconds, as txops begins (45 R187). -/
def shownOpening (chip : List Byte) (z o n : Nat) : List Event :=
  .op (.lreq chip z o) :: .op (.lsetb .high .high) :: List.replicate n .tick

theorem shown_txops_opening :
    (txops chip z o f p g).flatMap TxEntry.shown =
      shownOpening chip z o Config.settleUs ++
        ((f.flatMap (pulseEntries p g)).flatMap TxEntry.shown ++ [.op (.lsetb .high .high), .op .lrel]) :=
  shown_txops chip z o f p g

theorem opening_ticks (n : Nat) : (shownOpening chip z o n).count .tick = n := by
  simp [shownOpening]

theorem opening_operations (n : Nat) : ((shownOpening chip z o n).filter (· ≠ .tick)).length = 2 := by
  simp [shownOpening]

/-- The low times and the spacings of the frame bits take L (p + s) microseconds (45 R203). -/
theorem pulses_ticks :
    ((f.flatMap (pulseEntries p g)).flatMap TxEntry.shown).count .tick = f.length * (p + g) := by
  induction f with
  | nil => simp
  | cons b f ih =>
    have one_bit : ((pulseEntries p g b).flatMap TxEntry.shown).count .tick = p + g := by
      simp [shown_pulseEntries]
    rw [List.flatMap_cons, List.flatMap_append, List.count_append, one_bit, ih, List.length_cons, Nat.succ_mul,
      Nat.add_comm]

/-- Each frame bit takes two line operations (45 R193). -/
theorem pulses_operations :
    (((f.flatMap (pulseEntries p g)).flatMap TxEntry.shown).filter (· ≠ .tick)).length = 2 * f.length := by
  induction f with
  | nil => simp
  | cons b f ih =>
    have one_bit : (((pulseEntries p g b).flatMap TxEntry.shown).filter (· ≠ .tick)).length = 2 := by
      simp [shown_pulseEntries]
    rw [List.flatMap_cons, List.flatMap_append, List.filter_append, List.length_append, one_bit, ih, List.length_cons]
    omega

theorem fallingEdges_append (l m : List Event) : fallingEdges (l ++ m) = fallingEdges l ++ fallingEdges m :=
  List.filterMap_append

theorem fallingEdges_ticks (n : Nat) : fallingEdges (List.replicate n .tick) = [] :=
  List.filterMap_replicate_of_none rfl

theorem opening_fallingEdges (n : Nat) : fallingEdges (shownOpening chip z o n) = [] :=
  fallingEdges_ticks n

/-- A frame bit has one falling edge, on the line that it selects (45 R202). -/
theorem pulse_fallingEdges : fallingEdges ((pulseEntries p g b).flatMap TxEntry.shown) = [lineOf b] := by
  simp only [shown_pulseEntries, fallingEdges_append, fallingEdges_ticks, List.append_nil]
  rfl

/-- The falling edges of the frame bits are on the lines that they select, in their order (45 R202). -/
theorem pulses_fallingEdges :
    fallingEdges ((f.flatMap (pulseEntries p g)).flatMap TxEntry.shown) = f.map lineOf := by
  induction f with
  | nil => rfl
  | cons b f ih =>
    rw [List.flatMap_cons, List.flatMap_append, fallingEdges_append, pulse_fallingEdges, ih, List.map_cons,
      List.singleton_append]

end Sys2Proof.Machine
end

section
/-! The transmitter and its list: at every place of the transmission STEP is the index of the entry in hand, and what a
run from there shows is a beginning of what the list still has to show (45 R187, R198). -/

namespace Sys2Proof.Machine

variable {s t : State} {z o : Nat}

/-! ### STEP is the index of the entry in hand -/

/-- The transmission of this state's frame on the lines at `z` and `o` (45 R187). -/
def State.entries (s : State) (z o : Nat) : List TxEntry :=
  txops s.cr.chip z o s.frame s.cr.pulseUs s.cr.spaceUs

/-- The place of the transmission and STEP agree. This is what the invariant of TRANSMITTING says of the place, without
the lines and TIMER, so that it holds from TX on whatever they were before (45 R187). -/
def State.atEntry (s : State) : Prop :=
  match s.seq with
  | .txstep .req => s.stepIx = 0
  | .lineop (.lreq chip z o) =>
    chip = s.cr.chip ∧ s.lineOffset .zero = some z ∧ s.lineOffset .one = some o ∧ s.stepIx = 0
  | .txstep .init => s.stepIx = 1
  | .txstep .settle | .hold .settle => s.stepIx = 2
  | .txstep .pulse => s.i ≤ s.frame.length ∧ s.stepIx = 3 + 4 * s.i
  | .lineop (.lset1 a .low) => s.frame[s.i]?.map lineOf = some a ∧ s.stepIx = 3 + 4 * s.i
  | .hold (.pulse a) => s.frame[s.i]?.map lineOf = some a ∧ s.stepIx = 4 + 4 * s.i
  | .lineop (.lset1 a .high) => s.frame[s.i]?.map lineOf = some a ∧ s.stepIx = 5 + 4 * s.i
  | .hold .space => s.i < s.frame.length ∧ s.stepIx = 6 + 4 * s.i
  | .txstep .terminal => s.stepIx = 3 + 4 * s.frame.length
  | .lineop (.lsetb vz vo) =>
    vz = .high ∧ vo = .high ∧ (s.stepIx = 1 ∨ s.stepIx = 3 + 4 * s.frame.length)
  | .txstep .rel | .lineop .lrel => s.stepIx = 4 + 4 * s.frame.length
  | .finish => s.stepIx = 5 + 4 * s.frame.length
  | .stage _ | .mode | .litPrefix | .literal | .fstep _ | .format | .parity => False

theorem not_encodes_of_atEntry (place : s.atEntry) : s.seq.encodes = false := by
  cases q : s.seq with
  | stage n | mode | litPrefix | literal | fstep n | format | parity => simp only [State.atEntry, q] at place
  | _ => rfl

/-- A line is selected only where I is the index of a frame bit (30 R100). -/
theorem selected_inside {a : Line} (selects : s.frame[s.i]?.map lineOf = some a) : s.i < s.frame.length := by
  obtain ⟨b, bit, -⟩ := Option.map_eq_some_iff.mp selects
  exact (List.getElem?_eq_some_iff.mp bit).1

theorem atEntry_of_inv (h : s.inv) (hp : s.phase = .transmitting) : s.atEntry := by
  obtain ⟨-, ⟨-, -, -, ilen⟩, -, place⟩ := (inv_transmitting hp).mp h
  unfold State.atEntry
  cases q : s.seq with
  | txstep n =>
    cases n <;> simp only [State.transmittingInv, q] at place
    case req => obtain ⟨-, -, -, entry, -⟩ := place; exact entry
    case pulse => obtain ⟨-, entry, -⟩ := place; exact ⟨ilen, entry⟩
    case init | settle | terminal | rel => obtain ⟨-, -, entry, -⟩ := place; exact entry
  | lineop op =>
    rcases op with ⟨_, _, _⟩ | ⟨a, _ | _⟩ | ⟨_, _⟩ | _ <;> simp only [State.transmittingInv, q] at place
    · obtain ⟨chip, zero, one, -, -, entry, -⟩ := place; exact ⟨chip, zero, one, entry⟩
    · obtain ⟨-, ⟨-, selects⟩, entry, -⟩ := place; exact ⟨selects, entry⟩
    · obtain ⟨-, ⟨-, selects⟩, entry, -⟩ := place; exact ⟨selects, entry⟩
    · obtain ⟨-, high0, high1, -, entry⟩ := place
      exact ⟨high0, high1, entry.imp And.left And.left⟩
    · obtain ⟨-, -, entry, -⟩ := place; exact entry
  | hold k =>
    cases k <;> simp only [State.transmittingInv, q] at place
    case settle => obtain ⟨-, -, entry, -⟩ := place; exact entry
    case pulse => obtain ⟨-, ⟨-, selects⟩, entry, -⟩ := place; exact ⟨selects, entry⟩
    case space =>
      obtain ⟨-, ⟨a, pulse⟩, entry, -⟩ := place
      exact ⟨inPulse_inside pulse, entry⟩
  | finish =>
    simp only [State.transmittingInv, q] at place
    obtain ⟨-, -, -, -, -, entry, -⟩ := place; exact entry
  | stage n | mode | litPrefix | literal | fstep n | format | parity => simp only [State.transmittingInv, q] at place

/-- The line operation in hand is entry STEP (45 R187). -/
theorem lineop_entry (place : s.atEntry) (zero : s.cr.d0 = some z) (one : s.cr.d1 = some o) {op : LineOp}
    (q : s.seq = .lineop op) : (s.entries z o)[s.stepIx]? = some (.op op) := by
  rcases op with ⟨chip, z', o'⟩ | ⟨a, _ | _⟩ | ⟨vz, vo⟩ | _ <;> simp only [State.atEntry, q] at place
  · obtain ⟨rfl, zero', one', entry⟩ := place
    cases zero.symm.trans zero'
    cases one.symm.trans one'
    rw [entry]; rfl
  · obtain ⟨selects, entry⟩ := place
    obtain ⟨b, bit, rfl⟩ := Option.map_eq_some_iff.mp selects
    rw [entry]; exact txops_pulse_entry (j := 0) bit (by decide)
  · obtain ⟨selects, entry⟩ := place
    obtain ⟨b, bit, rfl⟩ := Option.map_eq_some_iff.mp selects
    rw [entry, show 5 + 4 * s.i = 3 + 4 * s.i + 2 by omega]
    exact txops_pulse_entry bit (by decide)
  · obtain ⟨rfl, rfl, entry | entry⟩ := place
    · rw [entry]; rfl
    · rw [entry]; exact txops_end_entry 0
  · rw [place, show 4 + 4 * s.frame.length = 3 + 4 * s.frame.length + 1 by omega]
    exact txops_end_entry 1

/-- The hold that runs is entry STEP (45 R187). -/
theorem hold_entry (place : s.atEntry) {k : HoldKind} (q : s.seq = .hold k) :
    (s.entries z o)[s.stepIx]? = some (.hold (s.holdUs k)) := by
  cases k <;> simp only [State.atEntry, q] at place
  case settle => rw [place]; rfl
  case pulse =>
    obtain ⟨selects, entry⟩ := place
    obtain ⟨b, bit, -⟩ := Option.map_eq_some_iff.mp selects
    rw [entry, show 4 + 4 * s.i = 3 + 4 * s.i + 1 by omega]
    exact txops_pulse_entry bit (by decide)
  case space =>
    obtain ⟨inside, entry⟩ := place
    rw [entry, show 6 + 4 * s.i = 3 + 4 * s.i + 3 by omega]
    exact txops_pulse_entry (List.getElem?_eq_getElem inside) (by decide)

/-! ### A step goes on to the next entry -/

/-- A step that does not end the run keeps STEP at the entry in hand (45 R187). -/
theorem TransmitStep.keeps_atEntry (st : TransmitStep s t) (place : s.atEntry) (goes_on : t.phase ≠ .done) :
    t.atEntry := by
  cases st with
  | lineFail | finish => exact absurd rfl goes_on
  | req q zero one => simp only [State.atEntry, q] at place; exact ⟨rfl, zero, one, place⟩
  | init q => simp only [State.atEntry, q] at place; exact ⟨rfl, rfl, .inl place⟩
  | settle q => simp only [State.atEntry, q] at place; exact place
  | pulse q bit =>
    simp only [State.atEntry, q] at place
    obtain ⟨-, entry⟩ := place
    exact ⟨congrArg (Option.map lineOf) bit, entry⟩
  | pulsesEnd q ended =>
    simp only [State.atEntry, q] at place
    obtain ⟨inside, entry⟩ := place
    have last : s.i = s.frame.length := le_antisymm inside ended
    exact show s.stepIx = 3 + 4 * s.frame.length by omega
  | terminal q => simp only [State.atEntry, q] at place; exact ⟨rfl, rfl, .inr place⟩
  | rel q => simp only [State.atEntry, q] at place; exact place
  | lreq q =>
    simp only [State.atEntry, q] at place
    obtain ⟨-, -, -, entry⟩ := place
    exact congrArg (· + 1) entry
  | @lset1 a v q owned =>
    cases v <;> simp only [State.atEntry, q] at place <;> obtain ⟨selects, entry⟩ := place
    case low => exact ⟨selects, show s.stepIx + 1 = 4 + 4 * s.i by omega⟩
    case high => exact ⟨selected_inside selects, show s.stepIx + 1 = 6 + 4 * s.i by omega⟩
  | lsetb q owned =>
    simp only [State.atEntry, q] at place
    obtain ⟨-, -, entry | entry⟩ := place
    · rw [if_pos entry]
      exact congrArg (· + 1) entry
    · rw [if_neg (by omega)]
      exact show s.stepIx + 1 = 4 + 4 * s.frame.length by omega
  | lrel q =>
    simp only [State.atEntry, q] at place
    exact show s.stepIx + 1 = 5 + 4 * s.frame.length by omega
  | tick q runs => simp only [State.atEntry, q] at place ⊢; exact place
  | @holdEnd k q ended =>
    cases k <;> simp only [State.atEntry, q] at place
    case settle => exact ⟨Nat.zero_le _, congrArg (· + 1) place⟩
    case pulse =>
      obtain ⟨selects, entry⟩ := place
      exact ⟨selects, show s.stepIx + 1 = 5 + 4 * s.i by omega⟩
    case space =>
      obtain ⟨inside, entry⟩ := place
      exact ⟨inside, show s.stepIx + 1 = 3 + 4 * (s.i + 1) by omega⟩

/-! ### What is left to show -/

/-- What the entries from index n on show. -/
def shownFrom (l : List TxEntry) (n : Nat) : List Event := (l.drop n).flatMap TxEntry.shown

theorem shownFrom_entry {l : List TxEntry} {n : Nat} {e : TxEntry} (entry : l[n]? = some e) :
    shownFrom l n = e.shown ++ shownFrom l (n + 1) := by
  obtain ⟨below, rfl⟩ := List.getElem?_eq_some_iff.mp entry
  rw [shownFrom, List.drop_eq_getElem_cons below, List.flatMap_cons, shownFrom]

/-- What the list still has to show: in a hold the rest of it and the entries behind it, elsewhere the entries from the
one in hand on (45 R187, R199). -/
def State.toShow (s : State) (z o : Nat) : List Event :=
  match s.seq with
  | .hold _ => List.replicate s.timer .tick ++ shownFrom (s.entries z o) (s.stepIx + 1)
  | .stage _ | .mode | .litPrefix | .literal | .fstep _ | .format | .parity | .txstep _ | .lineop _ | .finish =>
    shownFrom (s.entries z o) s.stepIx

theorem toShow_hold {k : HoldKind} (q : s.seq = .hold k) :
    s.toShow z o = List.replicate s.timer .tick ++ shownFrom (s.entries z o) (s.stepIx + 1) := by
  simp only [State.toShow, q]

theorem toShow_txstep {n : TxStep} (q : s.seq = .txstep n) : s.toShow z o = shownFrom (s.entries z o) s.stepIx := by
  simp only [State.toShow, q]

/-- A line operation shows itself and then the entries behind it (45 R187). -/
theorem toShow_lineop (place : s.atEntry) (zero : s.cr.d0 = some z) (one : s.cr.d1 = some o) {op : LineOp}
    (q : s.seq = .lineop op) : s.toShow z o = .op op :: shownFrom (s.entries z o) (s.stepIx + 1) := by
  simp only [State.toShow, q]
  exact shownFrom_entry (lineop_entry place zero one q)

/-- A hold that begins has all of its entry to show (45 R199). -/
theorem toShow_hold_begun (place : s.atEntry) {k : HoldKind} (q : s.seq = .hold k) (begun : s.timer = s.holdUs k) :
    s.toShow z o = shownFrom (s.entries z o) s.stepIx := by
  rw [toShow_hold q, begun, shownFrom_entry (hold_entry place q), TxEntry.shown]

theorem event_tick (hp : s.phase = .transmitting) {k : HoldKind} (q : s.seq = .hold k) (runs : s.timer ≠ 0) :
    s.event = some .tick := by
  simp [State.event, hp, q, runs]

theorem event_hold_ended (hp : s.phase = .transmitting) {k : HoldKind} (q : s.seq = .hold k) (ended : s.timer = 0) :
    s.event = none := by
  simp [State.event, hp, q, ended]

/-- What a step shows is the beginning of what was left to show (45 R187). -/
theorem event_prefix_toShow (hp : s.phase = .transmitting) (place : s.atEntry) (zero : s.cr.d0 = some z)
    (one : s.cr.d1 = some o) : s.event.toList <+: s.toShow z o := by
  cases q : s.seq with
  | txstep n => rw [event_txstep (.inr hp) q]; exact List.nil_prefix
  | lineop op =>
    rw [event_lineop (.inr hp) q, toShow_lineop place zero one q]
    exact List.prefix_append [_] _
  | hold k =>
    cases r : s.timer with
    | zero => rw [event_hold_ended hp q r]; exact List.nil_prefix
    | succ n =>
      rw [event_tick hp q (by omega), toShow_hold q, r]
      exact List.prefix_append [_] _
  | finish => rw [event_finish (.inr hp) q]; exact List.nil_prefix
  | stage n | mode | litPrefix | literal | fstep n | format | parity => simp only [State.atEntry, q] at place

/-- What a step that does not end the run shows is taken off what was left to show (45 R187). -/
theorem TransmitStep.toShow_eq (st : TransmitStep s t) (hp : s.phase = .transmitting) (place : s.atEntry)
    (zero : s.cr.d0 = some z) (one : s.cr.d1 = some o) (goes_on : t.phase ≠ .done) :
    s.event.toList ++ t.toShow z o = s.toShow z o := by
  have place' := st.keeps_atEntry place goes_on
  cases st with
  | lineFail | finish => exact absurd rfl goes_on
  | req q | init q | pulse q | pulsesEnd q | terminal q | rel q =>
    rw [event_txstep (.inr hp) q, toShow_txstep q]; rfl
  | settle q =>
    rw [event_txstep (.inr hp) q, toShow_txstep q]
    exact toShow_hold_begun place' rfl rfl
  | lreq q | lsetb q | lrel q =>
    rw [event_lineop (.inr hp) q, toShow_lineop place zero one q]; rfl
  | lset1 q owned =>
    rw [event_lineop (.inr hp) q, toShow_lineop place zero one q]
    exact congrArg (Event.op _ :: ·) (toShow_hold_begun place' rfl rfl)
  | tick q runs =>
    obtain ⟨n, left⟩ := Nat.exists_eq_succ_of_ne_zero runs
    rw [event_tick hp q runs, toShow_hold q, toShow_hold (s := { s with timer := s.timer - 1 }) q, left]; rfl
  | @holdEnd k q ended =>
    rw [event_hold_ended hp q ended, toShow_hold q, ended]
    cases k <;> rfl

/-! ### What a run shows -/

/-- After the run, and without a command of the host, nothing is shown (10 R37). -/
theorem events_done (hp : s.phase = .done) (idle : s.host = []) (n : Nat) : events n s = [] := by
  induction n with
  | zero => rfl
  | succ n ih => rw [events_next (step_host_none (.inr hp) idle), ih]; simp [State.event, hp]

/-- From a place of the transmission a run shows a beginning of what is left of txops, by induction on the steps
(45 R198). -/
theorem events_prefix_toShow (n : Nat) (hp : s.phase = .transmitting) (place : s.atEntry) (idle : s.host = [])
    (zero : s.cr.d0 = some z) (one : s.cr.d1 = some o) : events n s <+: s.toShow z o := by
  induction n generalizing s with
  | zero => exact List.nil_prefix
  | succ n ih =>
    have first := event_prefix_toShow hp place zero one
    cases hs : step s with
    | next t =>
      have st := transmitStep_of_step (.inr hp) (not_encodes_of_atEntry place) hs
      obtain ⟨cr, host, -⟩ := st.frame_eq
      rw [events_next hs]
      by_cases ended : t.phase = .done
      · rw [events_done ended (host.trans idle), List.append_nil]
        exact first
      · have hp' : t.phase = .transmitting := (st.phase_eq.resolve_right ended).trans hp
        rw [← st.toShow_eq hp place zero one ended]
        exact (List.prefix_append_right_inj _).mpr
          (ih hp' (st.keeps_atEntry place ended) (host.trans idle) (cr ▸ zero) (cr ▸ one))
    | fault r | refused r => simpa only [events, hs, List.append_nil] using first

end Sys2Proof.Machine
end

section
/-! The transmitter between the line operations: what it does at each step, how a hold counts, and which line is low
(45 R187 to R199). -/

namespace Sys2Proof.Machine

variable {s : State}

theorem exec_txReq : exec .txReq s = execTxReq s := rfl

/-- Without both offsets there is no line to name (45 R186; log 15). -/
theorem execTxReq_unnamed (unnamed : s.cr.d0 = none ∨ s.cr.d1 = none) : execTxReq s = .fault .lineUnnamed := by
  unfold execTxReq
  split
  next z o zero one =>
    have zero : s.cr.d0 = some z := zero
    have one : s.cr.d1 = some o := one
    simp [zero, one] at unnamed
  · rfl

/-- n microseconds of a hold change only TIMER, by induction on them (45 R199). -/
theorem hold_run {n : Nat} {k : HoldKind} (h : s.running) (q : s.seq = .hold k) (le : n ≤ s.timer) :
    core.run n s = .next { s with timer := s.timer - n } := by
  induction n generalizing s with
  | zero => rfl
  | succ n ih =>
    have tick := (step_hold h q).trans (congrArg _ (holdTick_running (by omega)))
    rw [run_next tick, ih (s := { s with timer := s.timer - 1 }) h q (Nat.le_sub_one_of_lt le), Nat.sub_sub,
      Nat.add_comm 1]

theorem holdDone_stepIx (k : HoldKind) : (s.holdDone k).stepIx = s.stepIx + 1 := by
  cases k <;> rfl

/-- While the lines are owned both are high, or one is low within its pulse, at its low time or its rising set (45 R193,
R194). -/
theorem lines_of_owned (h : s.inv) (hp : s.phase = .transmitting) (owned : s.owned = true) :
    s.linesIdle ∨
      ∃ a, s.lineLow a ∧ s.inPulse a ∧ (s.seq = .hold (.pulse a) ∨ s.seq = .lineop (.lset1 a .high)) := by
  obtain ⟨-, -, -, place⟩ := (inv_transmitting hp).mp h
  have contradicts (unowned : s.owned = false) : False := by simp [unowned] at owned
  cases q : s.seq with
  | txstep n =>
    cases n <;> simp only [State.transmittingInv, q] at place <;> obtain ⟨lines, -⟩ := place
    case req => exact (contradicts lines).elim
    all_goals exact .inl lines
  | lineop op =>
    rcases op with ⟨_, _, _⟩ | ⟨a, _ | _⟩ | ⟨_, _⟩ | _ <;> simp only [State.transmittingInv, q] at place
    · obtain ⟨-, -, -, unowned, -⟩ := place; exact (contradicts unowned).elim
    · obtain ⟨idle, -⟩ := place; exact .inl idle
    · obtain ⟨low, pulse, -⟩ := place; exact .inr ⟨a, low, pulse, .inr rfl⟩
    · obtain ⟨idle, -⟩ := place; exact .inl idle
    · obtain ⟨idle, -⟩ := place; exact .inl idle
  | hold k =>
    cases k <;> simp only [State.transmittingInv, q] at place
    case settle | space => obtain ⟨idle, -⟩ := place; exact .inl idle
    case pulse a => obtain ⟨low, pulse, -⟩ := place; exact .inr ⟨a, low, pulse, .inl rfl⟩
  | finish =>
    simp only [State.transmittingInv, q] at place
    obtain ⟨unowned, -⟩ := place; exact (contradicts unowned).elim
  | stage n | mode | litPrefix | literal | fstep n | format | parity => simp only [State.transmittingInv, q] at place

theorem linesIdle_level (idle : s.linesIdle) (a : Line) : s.level a = .high := by
  obtain ⟨-, high0, high1⟩ := idle
  cases a
  · exact high0
  · exact high1

theorem lineLow_level {a : Line} (low : s.lineLow a) (b : Line) : s.level b = .low ↔ b = a := by
  obtain ⟨-, level0, level1⟩ := low
  cases a <;> cases b <;> simp [State.level, level0, level1]

theorem lineOf_eq_iff {b : Bit} {a : Line} : lineOf b = a ↔ b = decide (a = .one) := by
  cases a <;> cases b <;> decide

/-- Within the pulse on a line the frame bit at I is the one that selects it (30 R100). -/
theorem inPulse_bit {a : Line} (pulse : s.inPulse a) : s.frame[s.i]? = some (decide (a = .one)) := by
  obtain ⟨-, selects⟩ := pulse
  obtain ⟨b, bit, line⟩ := Option.map_eq_some_iff.mp selects
  rw [bit, lineOf_eq_iff.mp line]

end Sys2Proof.Machine
end

section
/-! Proofs of the statements about the pulse transmitter (45). -/

namespace Sys2Proof.Proofs

open Sys2Proof.Machine

/-- Settles O58: TX puts the transmitter at entry 0, and from any entry on a run shows a beginning of the rest. -/
theorem eventsAreABeginningOfTxops : Obligations.EventsAreABeginningOfTxops := by
  unfold Obligations.EventsAreABeginningOfTxops
  intro s z o n hp q idle zero one
  cases n with
  | zero => exact List.nil_prefix
  | succ n =>
    rw [events_next (step_tx (.inl hp) q), event_encodes (by rw [q]; rfl)]
    exact events_prefix_toShow n rfl rfl idle zero one

/-- Settles O45: by induction on the microseconds. -/
theorem holdChangesOnlyTimer : Obligations.HoldChangesOnlyTimer := by
  unfold Obligations.HoldChangesOnlyTimer
  intro s k hp q
  refine ⟨fun n => hold_run (.inr hp) q, fun ended => ⟨?_, holdDone_stepIx k⟩⟩
  rw [step_hold (.inr hp) q, holdTick_over ended]

/-- Settles O46: the two halves of the pulse behind one another, as in the whole transmission. -/
theorem pulseTakesLowThenSpacing : Obligations.PulseTakesLowThenSpacing := by
  unfold Obligations.PulseTakesLowThenSpacing
  intro s b rest hp q bit owned high0 high1 script
  obtain ⟨run, shown⟩ := pulse_runs hp q bit ⟨owned, high0, high1⟩ script
  exact ⟨run, shown.trans shown_pulseEntries⟩

/-- Settles O47: by induction on the frame, with the entries before and behind it. -/
theorem txopsLengthAndDuration : Obligations.TxopsLengthAndDuration := by
  unfold Obligations.TxopsLengthAndDuration
  intro chip z o f p g
  rw [shown_txops_opening]
  refine ⟨txops_length, ?_, ?_⟩
  · rw [List.count_append, List.count_append, opening_ticks, pulses_ticks]
    rfl
  · rw [List.filter_append, List.filter_append, List.length_append, List.length_append, opening_operations,
      pulses_operations, Nat.add_left_comm]
    rfl

/-- Settles O48: by induction on the frame; the entries before and behind it have no falling edge. -/
theorem fallingEdgesSpellTheFrame : Obligations.FallingEdgesSpellTheFrame := by
  unfold Obligations.FallingEdgesSpellTheFrame
  intro chip z o f p g
  rw [shown_txops_opening, fallingEdges_append, fallingEdges_append, opening_fallingEdges, pulses_fallingEdges]
  exact List.append_nil _

/-- Settles O53: by the place of the sequencer, of which only the low half of a pulse has a line low. -/
theorem atMostOneLineLow : Obligations.AtMostOneLineLow := by
  unfold Obligations.AtMostOneLineLow
  intro s h hp owned
  obtain idle | ⟨a, low, pulse, place⟩ := lines_of_owned h hp owned
  · have high (a : Line) : s.level a ≠ .low := by simp [linesIdle_level idle a]
    exact ⟨fun ⟨low0, _⟩ => high .zero low0, fun a low => absurd low (high a)⟩
  · have low_iff := lineLow_level low
    refine ⟨fun ⟨low0, low1⟩ => ?_, fun b lowb => ?_⟩
    · have same : Line.zero = Line.one := ((low_iff .zero).mp low0).trans ((low_iff .one).mp low1).symm
      cases same
    · cases (low_iff b).mp lowb
      exact ⟨inPulse_bit pulse, place⟩

/-- Settles O54: the invariant ties STEP to the place of the sequencer, and the place to an entry. -/
theorem transmitterStandsAtEntryStep : Obligations.TransmitterStandsAtEntryStep := by
  unfold Obligations.TransmitterStandsAtEntryStep
  intro s z o h hp zero one
  have place := atEntry_of_inv h hp
  exact ⟨fun op => lineop_entry place zero one, fun k => hold_entry place⟩

/-- Settles O38: each of them writes its own fields and hands over; the settle hold is the one of SETTLE_US. -/
theorem transmitterStepsBegin : Obligations.TransmitterStepsBegin := by
  unfold Obligations.TransmitterStepsBegin
  exact fun s => ⟨rfl, rfl, rfl, rfl, rfl⟩

/-- Settles O39: by the presence of both offsets. -/
theorem requestNamesTheLines : Obligations.RequestNamesTheLines := by
  unfold Obligations.RequestNamesTheLines
  intro s
  rw [exec_txReq]
  exact ⟨fun z o => execTxReq_named, execTxReq_unnamed⟩

end Sys2Proof.Proofs
end

section
/-! The host's commands in DONE that have no step, and that outside a run every other step has a next state (10 R31,
30 R103, 60 R236). -/

namespace Sys2Proof.Machine

variable {s : State} {rest : List HostCommand}

/-- In DONE a write is refused (10 R31). -/
theorem step_done_write (h : s.phase = .done) {w : RegWrite} (e : s.host = .write w :: rest) :
    step s = .refused .hostWriteOutsideReady := by
  rw [step_idle (.inr h) (by simp [e])]
  simp [State.sequence, State.idleDone, h, e]

/-- In DONE a second start is refused (30 R103). -/
theorem step_done_start (h : s.phase = .done) (e : s.host = .command 1 :: rest) :
    step s = .refused .startOutsideReady := by
  rw [step_start (.inr h) e]
  exact execStart_refused (by simp [h])

/-- In READY every command of the host, and none, has a next state (40 R124). -/
theorem step_ready_answers (h : s.phase = .ready) : ∃ t, step s = .next t := by
  match e : s.host with
  | [] => exact ⟨_, step_host_none (.inl h) e⟩
  | .write w :: rest => exact ⟨_, step_write h e⟩
  | .command b :: rest =>
    obtain rfl | rfl := b.eq_zero_or_eq_one
    · exact ⟨_, step_start_low (.inl h) e⟩
    · exact ⟨_, (step_start (.inl h) e).trans (execStart_ready h)⟩
  | .reset :: rest => exact ⟨_, step_reset (.inl h) e⟩

/-- In DONE a step has a next state, or it is refused for a write or for a second start (10 R31, 30 R103). -/
theorem step_done_answers (h : s.phase = .done) :
    (∃ t, step s = .next t) ∨ ∃ r, step s = .refused r ∧ (r = .hostWriteOutsideReady ∨ r = .startOutsideReady) := by
  match e : s.host with
  | [] => exact .inl ⟨_, step_host_none (.inr h) e⟩
  | .write w :: rest => exact .inr ⟨_, step_done_write h e, .inl rfl⟩
  | .command b :: rest =>
    obtain rfl | rfl := b.eq_zero_or_eq_one
    · exact .inl ⟨_, step_start_low (.inr h) e⟩
    · exact .inr ⟨_, step_done_start h e, .inr rfl⟩
  | .reset :: rest => exact .inl ⟨_, step_reset (.inr h) e⟩

/-- From a state of the invariant a step has a next state, but for a host out of turn in DONE (60 R223). -/
theorem step_answers_or_host_refused (h : s.inv) :
    (∃ t, step s = .next t) ∨
    ∃ r, step s = .refused r ∧ s.phase = .done ∧ (r = .hostWriteOutsideReady ∨ r = .startOutsideReady) := by
  cases hp : s.phase with
  | ready => exact .inl (step_ready_answers hp)
  | encoding => exact .inl (step_running_answers h (.inl hp))
  | transmitting => exact .inl (step_running_answers h (.inr hp))
  | done =>
    obtain next | ⟨r, refused, reason⟩ := step_done_answers hp
    · exact .inl next
    · exact .inr ⟨r, refused, rfl, reason⟩

end Sys2Proof.Machine
end

section
/-! Proofs of the statements about the exceptions (60). -/

namespace Sys2Proof.Proofs

open Sys2Proof.Machine

/-- Settles O51: a step has a next state or is refused in DONE, and no step has two outcomes. -/
theorem onlyTheHostIsRefused : Obligations.OnlyTheHostIsRefused := by
  unfold Obligations.OnlyTheHostIsRefused
  intro s h
  obtain ⟨t, next⟩ | ⟨r, refused, host⟩ := step_answers_or_host_refused h
  · exact ⟨fun f faults => (nomatch next.symm.trans faults), fun r refused => (nomatch next.symm.trans refused)⟩
  · refine ⟨fun f faults => (nomatch refused.symm.trans faults), fun r' refused' => ?_⟩
    cases refused.symm.trans refused'
    exact host

/-- Settles O10: by the command at the head of the queue; DONE has no operation for START and no store for a write. -/
theorem doneIsFinalUntilReset : Obligations.DoneIsFinalUntilReset := by
  unfold Obligations.DoneIsFinalUntilReset
  intro s rest hp
  exact ⟨step_host_none (.inr hp), step_start_low (.inr hp), step_done_start hp, fun _ => step_done_write hp,
    step_reset (.inr hp)⟩

/-- Settles O13: the line is the free text of this draw without its line feeds. -/
theorem fatalErrorEntry : Obligations.FatalErrorEntry := by
  unfold Obligations.FatalErrorEntry
  intro s c
  exact ⟨diagLine s.draws, diagLine_no_line_feed s.draws, rfl⟩

end Sys2Proof.Proofs
end
